-- ==== Sys2Proof/Word.lean ====
section
/-! DEFINITION. The words of the SerialCAN framer: bytes, command words and the plainest arithmetic on them (00_scope.md R8, R11). -/

namespace Sys2Proof

/-- One byte of a wire packet or buffer (20_memory.md R81). -/
abbrev Byte := BitVec 8

/-- A command word `C` (30_encoding.md R100). -/
abbrev CmdWord := BitVec 128

/-- The start marker of every wire packet (30_encoding.md R110, R114, R116). -/
abbrev startMarker : Byte := 0xAA#8

/-- The end marker of a data-frame packet, and the end-of-header marker of a 20-byte packet. -/
abbrev endMarker : Byte := 0x55#8

/-- `v`, widened with zero bits to `n` bits, with its bit 0 at bit `a`: a field in its place (00_scope.md R11). -/
def place {w : Nat} (n a : Nat) (v : BitVec w) : BitVec n := v.setWidth n <<< a

end Sys2Proof
end

