-- ==== Sys2Proof/Config.lean ====
section
/-! DEFINITION. What is fixed for a run (00_scope.md R9, 10_state.md R57: configuration is not state), and the free values:
constants with no body, of which nothing can be proved but what holds of every value. -/

namespace Sys2Proof

/-- `P_ID_ORDER` (20_memory.md R82). -/
inductive IdOrder where
  | le
  | be
  deriving DecidableEq, Repr

/-- `P_CNT_UPDATE` (44_session.md R252). -/
inductive CntUpdate where
  | assign
  | satAccumulate
  deriving DecidableEq, Repr

/-- The parameters of 00_scope.md R9 that a command's effect depends on. The packet functions take them as an argument, so
that a statement can be made for every value; a meaning uses `Config.params`. -/
structure Params where
  idOrder     : IdOrder    -- P_ID_ORDER
  markerCheck : Bool       -- P_CTRL_MARKER_CHECK
  cntUpdate   : CntUpdate  -- P_CNT_UPDATE
  flagsOff    : Nat        -- P_RSP_FLAGS_OFF
  rxErrOff    : Nat        -- P_RSP_RXERR_OFF
  txErrOff    : Nat        -- P_RSP_TXERR_OFF
  deriving DecidableEq, Repr

/-- 00_scope.md R9: the three response offsets are in 3..18 and pairwise distinct. -/
def Params.OffsetsLegal (P : Params) : Prop :=
  (3 ≤ P.flagsOff ∧ P.flagsOff ≤ 18) ∧ (3 ≤ P.rxErrOff ∧ P.rxErrOff ≤ 18) ∧ (3 ≤ P.txErrOff ∧ P.txErrOff ≤ 18) ∧
    P.flagsOff ≠ P.rxErrOff ∧ P.flagsOff ≠ P.txErrOff ∧ P.rxErrOff ≠ P.txErrOff

/-- Free value (log entry 2): selects `P_RSP_FLAGS_OFF`, OPEN with no default (00_scope.md R9). -/
opaque Config.flagsOffDraw : Nat

/-- Free value (log entry 2): selects `P_RSP_RXERR_OFF`. -/
opaque Config.rxErrOffDraw : Nat

/-- Free value (log entry 2): selects `P_RSP_TXERR_OFF`. -/
opaque Config.txErrOffDraw : Nat

/-- Free value (log entry 14): `P_PATH`, any host string (00_scope.md R9). -/
opaque Config.path : String

/-- Free value (log entry 8): the contents after the `seed`-th reset of a field that 10_state.md R60 leaves unspecified;
`field` and `index` say which. -/
opaque Config.unspecified (seed field index : Nat) : BitVec 32

/-- Free value (log entry 3): whether the transport's `k`-th drawn answer is `ERR` (60_exceptions.md R290). -/
opaque Config.drawErr (k : Nat) : Bool

/-- Free value (log entry 3): the count of the transport's `k`-th drawn answer, cut to its range where it is used. -/
opaque Config.drawCount (k : Nat) : Nat

/-- Free value (log entry 4): how many of the oldest unread bytes are gone when the `k`-th drawn answer is given. -/
opaque Config.drawLost (k : Nat) : Nat

/-- Free value (log entry 4): the bytes that have arrived, unknown to the model, by the `k`-th drawn answer. -/
opaque Config.drawBytes (k : Nat) : List Byte

/-- The `a`-th number of 3..18. -/
def Config.pick (a : Nat) : Nat := 3 + a % 16

/-- The `a`-th number of 3..18 other than `x`. -/
def Config.pickOther (a x : Nat) : Nat :=
  let c := 3 + a % 15
  if c < x then c else c + 1

/-- The `a`-th number of 3..18 other than the two distinct numbers `x` and `y`. -/
def Config.pickThird (a x y : Nat) : Nat :=
  let lo := min x y
  let hi := max x y
  let c := 3 + a % 14
  let c1 := if c < lo then c else c + 1
  if c1 < hi then c1 else c1 + 1

/-- The response offsets: any three distinct numbers of 3..18, and the model does not know which (log entry 2). -/
def Config.flagsOff : Nat := Config.pick Config.flagsOffDraw

/-- See `Config.flagsOff`. -/
def Config.rxErrOff : Nat := Config.pickOther Config.rxErrOffDraw Config.flagsOff

/-- See `Config.flagsOff`. -/
def Config.txErrOff : Nat := Config.pickThird Config.txErrOffDraw Config.flagsOff Config.rxErrOff

/-- The parameters of this hardware (00_scope.md R9, column "value for this hardware"; log entries 1 and 2). -/
def Config.params : Params where
  idOrder     := .le
  markerCheck := true
  cntUpdate   := .satAccumulate
  flagsOff    := Config.flagsOff
  rxErrOff    := Config.rxErrOff
  txErrOff    := Config.txErrOff

/-- The line settings of `T_open` (44_session.md R240): baud 2000000, 8 data bits, 1 stop bit, no parity, no flow control. -/
structure LineSettings where
  baud        : Nat
  dataBits    : Nat
  stopBits    : Nat
  parity      : Bool
  flowControl : Bool
  deriving DecidableEq, Repr

/-- The settings the block opens the transport with (44_session.md R240). -/
def Config.lineSettings : LineSettings :=
  { baud := 2000000, dataBits := 8, stopBits := 1, parity := false, flowControl := false }

/-- `P_BAUD_NAME` as bit rates (30_encoding.md R111). Only `0x07` = 125 kbit/s is in the source; the others are PRESUMED (log
entry 15). Informative: no rule depends on it and no meaning reads it. -/
def Config.baudRate (code : BitVec 4) : Option Nat :=
  match code.toNat with
  | 1 => some 1000000
  | 2 => some 800000
  | 3 => some 500000
  | 4 => some 400000
  | 5 => some 250000
  | 6 => some 200000
  | 7 => some 125000
  | 8 => some 100000
  | 9 => some 50000
  | 10 => some 20000
  | 11 => some 10000
  | 12 => some 5000
  | _ => none

end Sys2Proof
end

