-- ==== Sys2Proof/Syntax.lean ====
section
/-! DEFINITION. The instructions: the 22 commands of 30_encoding.md R101 and the 7 wire-packet kinds of spec/opcode_table.json,
one constructor per row, and what can be laid before the block (a command word or a wire packet). -/

namespace Sys2Proof

/-- Identifier kind (00_scope.md R17; bit codes 30_encoding.md R103). -/
inductive IdKind where
  | standard
  | extended
  deriving DecidableEq, Repr

/-- Frame kind (00_scope.md R17; bit codes 30_encoding.md R103). -/
inductive FrameKind where
  | data
  | remote
  deriving DecidableEq, Repr

/-- `SEL`: which frame register a command uses (30_encoding.md R100). -/
inductive FrameSel where
  | txf
  | rxf
  deriving DecidableEq, Repr

/-- Operation mode (30_encoding.md R112). -/
inductive OpMode where
  | normal
  | loopback
  | silent
  | loopbackSilent
  deriving DecidableEq, Repr

/-- One constructor per row of spec/opcode_table.json. Operands are the fields a command uses (30_encoding.md R101), as they
stand (R105); those of a wire packet are its free bytes, in wire order. -/
inductive Instr where
  | csumClr
  | csumAdd (byte : Byte)
  | csumRd
  | frameNew (ide : IdKind) (rtr : FrameKind) (len : BitVec 4) (id : BitVec 32) (data : BitVec 64)
  | frameRdId (sel : FrameSel)
  | frameRdMeta (sel : FrameSel)
  | frameRdData (sel : FrameSel)
  | frameWrByte (sel : FrameSel) (idx : BitVec 5) (byte : Byte)
  | buildConfig (baud : BitVec 4) (mode : OpMode)
  | buildStatus
  | encodeFrame (sel : FrameSel)
  | txRd (idx : BitVec 5)
  | rxClr
  | rxAppend (byte : Byte)
  | decodeFrame
  | checkPkt
  | rxPush (byte : Byte)
  | openSession (baud : BitVec 4) (mode : OpMode)
  | send (sel : FrameSel)
  | pollStatus
  | close
  | rdState
  | wireConfig (baud : Byte) (mode : OpMode) (csum : Byte)
  | wireStatus
  | wireStatusResponse (body : Vector Byte 17) (csum : Byte)
  | wireDataStdData (dlc : BitVec 4) (id : Vector Byte 2) (payload : List Byte) (fin : Byte)
  | wireDataStdRemote (dlc : BitVec 4) (id : Vector Byte 2) (payload : List Byte) (fin : Byte)
  | wireDataExtData (dlc : BitVec 4) (id : Vector Byte 4) (payload : List Byte) (fin : Byte)
  | wireDataExtRemote (dlc : BitVec 4) (id : Vector Byte 4) (payload : List Byte) (fin : Byte)
  deriving DecidableEq, Repr

/-- What is laid before the block: a 128-bit command word on the command port (30_encoding.md R100), or the bytes of a packet
on the transport, first byte first (20_memory.md R84). -/
inductive Image where
  | command (c : CmdWord)
  | packet (bytes : List Byte)
  deriving DecidableEq, Repr

/-- Whether the instruction is one of the 22 commands (30_encoding.md R101), as against a wire packet. -/
def Instr.isCommand : Instr → Bool
  | .csumClr | .csumAdd _ | .csumRd | .frameNew .. | .frameRdId _ | .frameRdMeta _ | .frameRdData _ | .frameWrByte ..
  | .buildConfig .. | .buildStatus | .encodeFrame _ | .txRd _ | .rxClr | .rxAppend _ | .decodeFrame | .checkPkt
  | .rxPush _ | .openSession .. | .send _ | .pollStatus | .close | .rdState => true
  | .wireConfig .. | .wireStatus | .wireStatusResponse .. | .wireDataStdData .. | .wireDataStdRemote ..
  | .wireDataExtData .. | .wireDataExtRemote .. => false

end Sys2Proof
end

