-- ==== Sys2Proof/Decode.lean ====
section
/-! DEFINITION. Decoding a command word (30_encoding.md R100 to R106, R120) and a wire packet (R110 to R119), and the encoder
written from the same tables. -/

namespace Sys2Proof

/-- Why bits are no instruction. `unassignedOp`: 30_encoding.md R102; `nonzeroField`: R101 (`RSV` or a field the operation does
not use is nonzero); `notAPacket`: the bytes are none of the packet kinds of R110, R114, R115 and R116. -/
inductive DecodeError where
  | unassignedOp
  | nonzeroField
  | notAPacket
  deriving DecidableEq, Repr

/-! ## Bit codes of the enumerations (30_encoding.md R103, R112) -/

/-- 0 = Standard, 1 = Extended. -/
def IdKind.bit : IdKind → BitVec 1
  | .standard => 0
  | .extended => 1

/-- The inverse of `IdKind.bit`. -/
def IdKind.ofBit (b : BitVec 1) : IdKind := if b = 1 then .extended else .standard

/-- 0 = Data, 1 = Remote. -/
def FrameKind.bit : FrameKind → BitVec 1
  | .data => 0
  | .remote => 1

/-- The inverse of `FrameKind.bit`. -/
def FrameKind.ofBit (b : BitVec 1) : FrameKind := if b = 1 then .remote else .data

/-- 0 = `TXF`, 1 = `RXF` (30_encoding.md R100). -/
def FrameSel.bit : FrameSel → BitVec 1
  | .txf => 0
  | .rxf => 1

/-- The inverse of `FrameSel.bit`. -/
def FrameSel.ofBit (b : BitVec 1) : FrameSel := if b = 1 then .rxf else .txf

/-- The wire code of a mode (30_encoding.md R112). -/
def OpMode.code : OpMode → BitVec 2
  | .normal => 0
  | .loopback => 1
  | .silent => 2
  | .loopbackSilent => 3

/-- The inverse of `OpMode.code`; all four values are legal (30_encoding.md R103). -/
def OpMode.ofCode (b : BitVec 2) : OpMode :=
  if b = 0 then .normal else if b = 1 then .loopback else if b = 2 then .silent else .loopbackSilent

/-! ## The command word (30_encoding.md R100) -/

/-- The fields of a command word, lowest bits first. -/
structure Fields where
  op   : BitVec 5 := 0
  sel  : BitVec 1 := 0
  ide  : BitVec 1 := 0
  rtr  : BitVec 1 := 0
  len  : BitVec 4 := 0
  baud : BitVec 4 := 0
  mode : BitVec 2 := 0
  idx  : BitVec 5 := 0
  rsv  : BitVec 1 := 0
  byte : BitVec 8 := 0
  id   : BitVec 32 := 0
  data : BitVec 64 := 0
  deriving DecidableEq, Repr

/-- The fields of a command word at the bit positions of 30_encoding.md R100. -/
def fieldsOfWord (c : CmdWord) : Fields where
  op   := c.extractLsb' 0 5
  sel  := c.extractLsb' 5 1
  ide  := c.extractLsb' 6 1
  rtr  := c.extractLsb' 7 1
  len  := c.extractLsb' 8 4
  baud := c.extractLsb' 12 4
  mode := c.extractLsb' 16 2
  idx  := c.extractLsb' 18 5
  rsv  := c.extractLsb' 23 1
  byte := c.extractLsb' 24 8
  id   := c.extractLsb' 32 32
  data := c.extractLsb' 64 64

/-- The command word with the given fields at the bit positions of 30_encoding.md R100. -/
def wordOfFields (f : Fields) : CmdWord :=
  place 128 0 f.op ||| place 128 5 f.sel ||| place 128 6 f.ide ||| place 128 7 f.rtr ||| place 128 8 f.len ||| place 128 12 f.baud |||
    place 128 16 f.mode ||| place 128 18 f.idx ||| place 128 23 f.rsv ||| place 128 24 f.byte ||| place 128 32 f.id |||
    place 128 64 f.data

/-- The 22 operations of 30_encoding.md R101. -/
inductive Opcode where
  | csumClr | csumAdd | csumRd
  | frameNew | frameRdId | frameRdMeta | frameRdData | frameWrByte
  | buildConfig | buildStatus
  | encodeFrame | txRd | rxClr | rxAppend | decodeFrame
  | checkPkt | rxPush
  | openSession | send | pollStatus | close | rdState
  deriving DecidableEq, Repr

/-- The `OP` codes of 30_encoding.md R101; the others are unassigned (R102). -/
def opcodeOf (op : BitVec 5) : Option Opcode :=
  match op.toNat with
  | 0x01 => some .csumClr
  | 0x02 => some .csumAdd
  | 0x03 => some .csumRd
  | 0x04 => some .frameNew
  | 0x05 => some .frameRdId
  | 0x06 => some .frameRdMeta
  | 0x07 => some .frameRdData
  | 0x08 => some .frameWrByte
  | 0x09 => some .buildConfig
  | 0x0A => some .buildStatus
  | 0x0B => some .encodeFrame
  | 0x0C => some .txRd
  | 0x0D => some .rxClr
  | 0x0E => some .rxAppend
  | 0x0F => some .decodeFrame
  | 0x10 => some .checkPkt
  | 0x11 => some .rxPush
  | 0x12 => some .openSession
  | 0x13 => some .send
  | 0x14 => some .pollStatus
  | 0x15 => some .close
  | 0x16 => some .rdState
  | _ => none

/-- Which fields an operation uses. -/
structure FieldUse where
  sel  : Bool := false
  ide  : Bool := false
  rtr  : Bool := false
  len  : Bool := false
  baud : Bool := false
  mode : Bool := false
  idx  : Bool := false
  byte : Bool := false
  id   : Bool := false
  data : Bool := false
  deriving DecidableEq, Repr

/-- The column "fields used" of 30_encoding.md R101. -/
def usesOf : Opcode → FieldUse
  | .csumClr => {}
  | .csumAdd => { byte := true }
  | .csumRd => {}
  | .frameNew => { ide := true, rtr := true, len := true, id := true, data := true }
  | .frameRdId => { sel := true }
  | .frameRdMeta => { sel := true }
  | .frameRdData => { sel := true }
  | .frameWrByte => { sel := true, idx := true, byte := true }
  | .buildConfig => { baud := true, mode := true }
  | .buildStatus => {}
  | .encodeFrame => { sel := true }
  | .txRd => { idx := true }
  | .rxClr => {}
  | .rxAppend => { byte := true }
  | .decodeFrame => {}
  | .checkPkt => {}
  | .rxPush => { byte := true }
  | .openSession => { baud := true, mode := true }
  | .send => { sel := true }
  | .pollStatus => {}
  | .close => {}
  | .rdState => {}

/-- Stage (2) of 30_encoding.md R106: `RSV` and every field the operation does not use are 0. -/
def unusedZero (u : FieldUse) (f : Fields) : Bool :=
  f.rsv == 0 && (u.sel || f.sel == 0) && (u.ide || f.ide == 0) && (u.rtr || f.rtr == 0) && (u.len || f.len == 0) &&
    (u.baud || f.baud == 0) && (u.mode || f.mode == 0) && (u.idx || f.idx == 0) && (u.byte || f.byte == 0) &&
    (u.id || f.id == 0) && (u.data || f.data == 0)

/-- The command with the given operation and operands. -/
def assemble (o : Opcode) (f : Fields) : Instr :=
  match o with
  | .csumClr => .csumClr
  | .csumAdd => .csumAdd f.byte
  | .csumRd => .csumRd
  | .frameNew => .frameNew (.ofBit f.ide) (.ofBit f.rtr) f.len f.id f.data
  | .frameRdId => .frameRdId (.ofBit f.sel)
  | .frameRdMeta => .frameRdMeta (.ofBit f.sel)
  | .frameRdData => .frameRdData (.ofBit f.sel)
  | .frameWrByte => .frameWrByte (.ofBit f.sel) f.idx f.byte
  | .buildConfig => .buildConfig f.baud (.ofCode f.mode)
  | .buildStatus => .buildStatus
  | .encodeFrame => .encodeFrame (.ofBit f.sel)
  | .txRd => .txRd f.idx
  | .rxClr => .rxClr
  | .rxAppend => .rxAppend f.byte
  | .decodeFrame => .decodeFrame
  | .checkPkt => .checkPkt
  | .rxPush => .rxPush f.byte
  | .openSession => .openSession f.baud (.ofCode f.mode)
  | .send => .send (.ofBit f.sel)
  | .pollStatus => .pollStatus
  | .close => .close
  | .rdState => .rdState

/-- Stages (1) and (2) of decoding a command (30_encoding.md R106). Stage (3), the legality of `BAUD` and `IDX`, depends for
`TX_RD` on the state and is checked by the operation (log entry 13). -/
def decodeWord (c : CmdWord) : Except DecodeError Instr :=
  let f := fieldsOfWord c
  match opcodeOf f.op with
  | none => .error .unassignedOp
  | some o => if unusedZero (usesOf o) f then .ok (assemble o f) else .error .nonzeroField

/-! ## Wire packets -/

/-- Bytes `a .. a+n-1` of a packet. -/
def slice {n : Nat} (a : Nat) (bs : List Byte) : Vector Byte n := Vector.ofFn fun i => bs.getD (a + i) 0

/-- A 20-byte packet (table format WIRE20): the status packet (30_encoding.md R114), then the configuration packet's fixed
bytes (R110), then any other packet with the header `AA 55`, a status response (R115). The table's rows overlap: log entry
20. -/
def decodeWire20 (bs : List Byte) : Except DecodeError Instr :=
  if bs = [0xAA, 0x55, 0x04, 0, 0, 0, 0, 0, 0, 0, 0, 0, 0, 0, 0, 0, 0, 0, 0, 0x04] then .ok .wireStatus
  else
    let m := bs.getD 13 0
    if bs.take 3 = [0xAA, 0x55, 0x12] ∧ (bs.drop 4).take 9 = [0x02, 0, 0, 0, 0, 0, 0, 0, 0] ∧ m.extractLsb' 2 6 = 0 ∧
        (bs.drop 14).take 5 = [0x01, 0, 0, 0, 0] then
      .ok (.wireConfig (bs.getD 3 0) (.ofCode (m.extractLsb' 0 2)) (bs.getD 19 0))
    else if bs.take 2 = [0xAA, 0x55] then .ok (.wireStatusResponse (slice 2 bs) (bs.getD 19 0))
    else .error .notAPacket

/-- A data-frame packet (table format WIRE_DATA): start marker, control byte with marker bits `0b11`, and as many bytes as the
control byte says (30_encoding.md R116 to R118). The end byte and the DLC are operands: a packet of this form that is not well
framed is still a packet, which the decoder of 43_data_frame.md R212 judges. -/
def decodeWireData (bs : List Byte) : Except DecodeError Instr :=
  match bs with
  | b :: c :: rest =>
    let dlc := c.extractLsb' 0 4
    let w := if c.extractLsb' 5 1 = 1 then 4 else 2
    let payload := (rest.drop w).take dlc.toNat
    let fin := rest.getD (w + dlc.toNat) 0
    if b ≠ startMarker ∨ c.extractLsb' 6 2 ≠ 3 ∨ rest.length ≠ w + dlc.toNat + 1 then .error .notAPacket
    else if c.extractLsb' 5 1 = 1 then
      if c.extractLsb' 4 1 = 1 then .ok (.wireDataExtRemote dlc (slice 0 rest) payload fin)
      else .ok (.wireDataExtData dlc (slice 0 rest) payload fin)
    else
      if c.extractLsb' 4 1 = 1 then .ok (.wireDataStdRemote dlc (slice 0 rest) payload fin)
      else .ok (.wireDataStdData dlc (slice 0 rest) payload fin)
  | _ => .error .notAPacket

/-- The kind of a wire packet: 20 bytes beginning `AA 55` are one of the 20-byte packets (byte 1 = `0x55` has marker bits
`0b01` and so is no control byte, 30_encoding.md R118); anything else is tried as a data-frame packet. -/
def decodePacket (bs : List Byte) : Except DecodeError Instr :=
  if bs.length = 20 ∧ bs.take 2 = [0xAA, 0x55] then decodeWire20 bs else decodeWireData bs

/-- Decoding, total on any bits. -/
def decode : Image → Except DecodeError Instr
  | .command c => decodeWord c
  | .packet bs => decodePacket bs

/-! ## The encoder -/

/-- The control byte `0xC0 | (IDE << 5) | (RTR << 4) | L` of a data-frame packet (30_encoding.md R117). -/
def controlByte (k : IdKind) (r : FrameKind) (len : BitVec 4) : Byte :=
  0xC0 ||| place 8 5 k.bit ||| place 8 4 r.bit ||| place 8 0 len

/-- The fields of a command; a wire packet has none (and is given none). -/
def fieldsOf : Instr → Fields
  | .csumClr => { op := 0x01 }
  | .csumAdd b => { op := 0x02, byte := b }
  | .csumRd => { op := 0x03 }
  | .frameNew k r n i d => { op := 0x04, ide := k.bit, rtr := r.bit, len := n, id := i, data := d }
  | .frameRdId s => { op := 0x05, sel := s.bit }
  | .frameRdMeta s => { op := 0x06, sel := s.bit }
  | .frameRdData s => { op := 0x07, sel := s.bit }
  | .frameWrByte s j b => { op := 0x08, sel := s.bit, idx := j, byte := b }
  | .buildConfig b m => { op := 0x09, baud := b, mode := m.code }
  | .buildStatus => { op := 0x0A }
  | .encodeFrame s => { op := 0x0B, sel := s.bit }
  | .txRd j => { op := 0x0C, idx := j }
  | .rxClr => { op := 0x0D }
  | .rxAppend b => { op := 0x0E, byte := b }
  | .decodeFrame => { op := 0x0F }
  | .checkPkt => { op := 0x10 }
  | .rxPush b => { op := 0x11, byte := b }
  | .openSession b m => { op := 0x12, baud := b, mode := m.code }
  | .send s => { op := 0x13, sel := s.bit }
  | .pollStatus => { op := 0x14 }
  | .close => { op := 0x15 }
  | .rdState => { op := 0x16 }
  | .wireConfig .. | .wireStatus | .wireStatusResponse .. | .wireDataStdData .. | .wireDataStdRemote ..
  | .wireDataExtData .. | .wireDataExtRemote .. => {}

/-- A data-frame packet's bytes (30_encoding.md R116). -/
def dataPacket (k : IdKind) (r : FrameKind) (dlc : BitVec 4) (id payload : List Byte) (fin : Byte) : List Byte :=
  startMarker :: controlByte k r dlc :: (id ++ payload ++ [fin])

/-- The bytes of a wire packet (30_encoding.md R110, R114, R115, R116); a command has none (and is given none). -/
def wireBytes : Instr → List Byte
  | .wireConfig b m cs =>
    [0xAA, 0x55, 0x12, b, 0x02, 0, 0, 0, 0, 0, 0, 0, 0, m.code.setWidth 8, 0x01, 0, 0, 0, 0, cs]
  | .wireStatus => [0xAA, 0x55, 0x04, 0, 0, 0, 0, 0, 0, 0, 0, 0, 0, 0, 0, 0, 0, 0, 0, 0x04]
  | .wireStatusResponse body cs => [0xAA, 0x55] ++ body.toList ++ [cs]
  | .wireDataStdData n i p e => dataPacket .standard .data n i.toList p e
  | .wireDataStdRemote n i p e => dataPacket .standard .remote n i.toList p e
  | .wireDataExtData n i p e => dataPacket .extended .data n i.toList p e
  | .wireDataExtRemote n i p e => dataPacket .extended .remote n i.toList p e
  | .csumClr | .csumAdd _ | .csumRd | .frameNew .. | .frameRdId _ | .frameRdMeta _ | .frameRdData _ | .frameWrByte ..
  | .buildConfig .. | .buildStatus | .encodeFrame _ | .txRd _ | .rxClr | .rxAppend _ | .decodeFrame | .checkPkt
  | .rxPush _ | .openSession .. | .send _ | .pollStatus | .close | .rdState => []

/-- The image of an instruction: a command's word, or a wire packet's bytes. -/
def encode (i : Instr) : Image :=
  if i.isCommand then .command (wordOfFields (fieldsOf i)) else .packet (wireBytes i)

/-! ## The opcode table -/

/-- A row of spec/opcode_table.json of format CMD128: a word `C` is the row's command when `C & mask = match`. -/
structure OpcodeRow where
  opcode : Opcode
  pat    : CmdWord
  mask   : CmdWord
  deriving DecidableEq, Repr

/-- The command rows of spec/opcode_table.json (30_encoding.md R124), as the table writes them. -/
def opcodeRows : List OpcodeRow :=
  [ ⟨.csumClr,     0x01, 0xFFFFFFFFFFFFFFFFFFFFFFFFFFFFFFFF⟩,
    ⟨.csumAdd,     0x02, 0xFFFFFFFFFFFFFFFFFFFFFFFF00FFFFFF⟩,
    ⟨.csumRd,      0x03, 0xFFFFFFFFFFFFFFFFFFFFFFFFFFFFFFFF⟩,
    ⟨.frameNew,    0x04, 0x000000000000000000000000FFFFF03F⟩,
    ⟨.frameRdId,   0x05, 0xFFFFFFFFFFFFFFFFFFFFFFFFFFFFFFDF⟩,
    ⟨.frameRdMeta, 0x06, 0xFFFFFFFFFFFFFFFFFFFFFFFFFFFFFFDF⟩,
    ⟨.frameRdData, 0x07, 0xFFFFFFFFFFFFFFFFFFFFFFFFFFFFFFDF⟩,
    ⟨.frameWrByte, 0x08, 0xFFFFFFFFFFFFFFFFFFFFFFFF0083FFDF⟩,
    ⟨.buildConfig, 0x09, 0xFFFFFFFFFFFFFFFFFFFFFFFFFFFC0FFF⟩,
    ⟨.buildStatus, 0x0A, 0xFFFFFFFFFFFFFFFFFFFFFFFFFFFFFFFF⟩,
    ⟨.encodeFrame, 0x0B, 0xFFFFFFFFFFFFFFFFFFFFFFFFFFFFFFDF⟩,
    ⟨.txRd,        0x0C, 0xFFFFFFFFFFFFFFFFFFFFFFFFFF83FFFF⟩,
    ⟨.rxClr,       0x0D, 0xFFFFFFFFFFFFFFFFFFFFFFFFFFFFFFFF⟩,
    ⟨.rxAppend,    0x0E, 0xFFFFFFFFFFFFFFFFFFFFFFFF00FFFFFF⟩,
    ⟨.decodeFrame, 0x0F, 0xFFFFFFFFFFFFFFFFFFFFFFFFFFFFFFFF⟩,
    ⟨.checkPkt,    0x10, 0xFFFFFFFFFFFFFFFFFFFFFFFFFFFFFFFF⟩,
    ⟨.rxPush,      0x11, 0xFFFFFFFFFFFFFFFFFFFFFFFF00FFFFFF⟩,
    ⟨.openSession, 0x12, 0xFFFFFFFFFFFFFFFFFFFFFFFFFFFC0FFF⟩,
    ⟨.send,        0x13, 0xFFFFFFFFFFFFFFFFFFFFFFFFFFFFFFDF⟩,
    ⟨.pollStatus,  0x14, 0xFFFFFFFFFFFFFFFFFFFFFFFFFFFFFFFF⟩,
    ⟨.close,       0x15, 0xFFFFFFFFFFFFFFFFFFFFFFFFFFFFFFFF⟩,
    ⟨.rdState,     0x16, 0xFFFFFFFFFFFFFFFFFFFFFFFFFFFFFFFF⟩ ]

/-- The operation of a command; none for a wire packet. -/
def opcodeOfInstr (i : Instr) : Option Opcode := opcodeOf (fieldsOf i).op

/-! ## The host's numbering of the table's bits -/

/-- The `n` bytes of a number, most significant first. -/
def bytesOfNat : Nat → Nat → List Byte
  | 0, _ => []
  | n + 1, w => BitVec.ofNat 8 (w >>> (8 * n)) :: bytesOfNat n w

/-- The table writes a packet byte 0 first, so that byte 0 is the number's most significant byte; a number that has the start
marker at its other end instead is read from there (log entry 10). -/
def packetOfNat (n w : Nat) : List Byte :=
  let bs := bytesOfNat n w
  if bs.headD 0 = startMarker then bs else bs.reverse

/-- A packet's first two bytes followed by zeros, as many as its control byte says (30_encoding.md R118). -/
def padPacket (bs : List Byte) : List Byte :=
  let c := bs.getD 1 0
  bs ++ List.replicate (1 + (if c.extractLsb' 5 1 = 1 then 4 else 2) + (c.extractLsb' 0 4).toNat) 0

/-- The image of an instruction whose bits are `w`, as spec/opcode_table.json numbers them (log entry 10): 160 bits are a
20-byte packet, 16 bits with the start marker at one end the first two bytes of a data-frame packet, the rest of which is
zero; everything else is a command word, zero above `nbits`. -/
def tableImage (nbits w : Nat) : Image :=
  if nbits = 160 then .packet (packetOfNat 20 w)
  else if nbits = 16 ∧ (packetOfNat 2 w).headD 0 = startMarker then .packet (padPacket (packetOfNat 2 w))
  else .command (BitVec.ofNat 128 w)

/-- The instruction the decoder reads from the bits `w`. -/
def decodeTableWord (nbits w : Nat) : Option Instr :=
  match decode (tableImage nbits w) with
  | .ok i => some i
  | .error _ => none

end Sys2Proof
end

