-- ==== Sys2Proof/Machine/State.lean ====
section
/-! DEFINITION. The machine's state (10_state.md), what a command answers (30_encoding.md R104), what the agents around the block
do (60_exceptions.md R290, R292, R299), and the state after reset (10_state.md R60). -/

namespace Sys2Proof.Machine

/-- The result codes of 60_exceptions.md R270. -/
inductive ResultCode where
  | ok
  | tooMuchPayload
  | identifierOutOfRange
  | malformedFrame
  | transportUnavailable
  | statusUnavailable
  | notReady
  | noFrame
  | illegalCommand
  | transportWriteError
  | checksumMismatch
  | bufferOverflow
  | inProgress
  | packetMalformed
  deriving DecidableEq, Repr

/-- A response `(RES, RVAL, RDATA)` (30_encoding.md R104). `RES` is held by name; its code is `ResultCode.code`. -/
structure Response where
  res   : ResultCode
  rval  : BitVec 32
  rdata : BitVec 64
  deriving DecidableEq, Repr

/-- A frame register (10_state.md R33). -/
structure FrameReg where
  valid : Bool
  id    : BitVec 32
  ide   : IdKind
  rtr   : FrameKind
  len   : BitVec 4
  data  : Vector Byte 8
  deriving DecidableEq, Repr

/-- `DF_STATE` (10_state.md R45); the code 3, never held, has no name. -/
inductive DfState where
  | hunt
  | ctrl
  | body
  deriving DecidableEq, Repr

/-- `SESS_STATE` (10_state.md R50); the code 3, never held, has no name. -/
inductive SessState where
  | closed
  | configuring
  | ready
  deriving DecidableEq, Repr

/-- What comes to the block's inputs between commands: something laid before it, or its reset (70_reset_and_hazards.md R300). -/
inductive PortEvent where
  | present (img : Image)
  | reset
  deriving DecidableEq, Repr

/-- One answer of the transport (60_exceptions.md R290), enough of it for any of the calls: `err`: the answer is `ERR`;
`count`: the count of a `T_write`, or the number of bytes of a `T_read`, cut to the call's range; `lost`: how many of the oldest
unread bytes are gone when a `T_read` is answered; `arrived`: bytes the adapter has sent by then (log entries 3 and 4). -/
structure Draw where
  err     : Bool
  count   : Nat
  lost    : Nat
  arrived : List Byte
  deriving DecidableEq, Repr

/-- A transport call and its answer (00_scope.md R15); `none` is `ERR`. -/
inductive TransportCall where
  | tOpen (path : String) (settings : LineSettings) (ok : Bool)
  | tWrite (bytes : List Byte) (answer : Option Nat)
  | tRead (n : Nat) (answer : Option (List Byte))
  | tClose
  deriving DecidableEq, Repr

/-- Reasons a step faults: none. No error stops the block (60_exceptions.md R272: "There are no fatal/unrecoverable conditions
inside the core itself"), so the type is empty, and no step can fault. -/
inductive Fault : Type where
  deriving DecidableEq, Repr

/-- Reasons a step is refused. -/
inductive Refusal where
  /-- Raised by `exec` alone, for an instruction that has no meaning yet; there is none now. Safe. -/
  | notModelled (mnemonic : String)
  deriving DecidableEq, Repr

/-- The state. The first block of fields is the spec's (10_state.md: "The state is, in full"); the second is the model's own:
the agents around the block and what a run shows (60_exceptions.md R299). -/
structure State where
  txf         : FrameReg         -- TXF, R33
  rxf         : FrameReg         -- RXF, R33
  csumAcc     : BitVec 16        -- CSUM_ACC, R40
  txbuf       : Vector Byte 20   -- TXBUF, R42
  txlen       : BitVec 5         -- TXLEN, R42
  rxbuf       : Vector Byte 20   -- RXBUF, R43
  rxlen       : BitVec 5         -- RXLEN, R43
  dfState     : DfState          -- DF_STATE, R45
  dfBuf       : Vector Byte 15   -- DF_BUF, R45
  dfN         : BitVec 4         -- DF_N, R45
  dfExp       : BitVec 4         -- DF_EXP, R45
  sessState   : SessState        -- SESS_STATE, R50
  tportOpen   : Bool             -- TPORT_OPEN, R51
  rxErr       : BitVec 8         -- RX_ERR, R52
  txErr       : BitVec 8         -- TX_ERR, R52
  statusFlags : BitVec 8         -- STATUS_FLAGS, R53
  port        : List PortEvent      -- what is still to come at the inputs (log entry 6)
  answers     : List Draw           -- transport answers already fixed (log entry 3)
  draws       : Nat                 -- selects the next free value (log entry 3)
  unread      : List Byte           -- bytes the adapter sent and nobody has read (log entry 4)
  responses   : List Response       -- responses given, newest first (log entry 7)
  calls       : List TransportCall  -- transport calls made, newest first (log entry 7)
  deriving DecidableEq, Repr

/-- The contents a frame register has after the `seed`-th reset: `VALID = 0`, the rest unspecified (10_state.md R60, log entry
8). -/
def FrameReg.unspecified (seed field : Nat) : FrameReg where
  valid := false
  id    := Config.unspecified seed field 0
  ide   := .ofBit ((Config.unspecified seed field 1).setWidth 1)
  rtr   := .ofBit ((Config.unspecified seed field 2).setWidth 1)
  len   := (Config.unspecified seed field 3).setWidth 4
  data  := Vector.ofFn fun i => (Config.unspecified seed field (4 + i)).setWidth 8

/-- The contents a buffer has after the `seed`-th reset: unspecified (10_state.md R60, log entry 8). -/
def bufferUnspecified (n seed field : Nat) : Vector Byte n :=
  Vector.ofFn fun i => (Config.unspecified seed field i).setWidth 8

/-- 10_state.md R60: the block's fields after the reset numbered `seed`, with nothing around the block. -/
def State.afterReset (seed : Nat) : State where
  txf         := .unspecified seed 0
  rxf         := .unspecified seed 1
  csumAcc     := 0
  txbuf       := bufferUnspecified 20 seed 2
  txlen       := 0
  rxbuf       := bufferUnspecified 20 seed 3
  rxlen       := 0
  dfState     := .hunt
  dfBuf       := bufferUnspecified 15 seed 4
  dfN         := 0
  dfExp       := 0
  sessState   := .closed
  tportOpen   := false
  rxErr       := 0
  txErr       := 0
  statusFlags := 0
  port        := []
  answers     := []
  draws       := seed + 1
  unread      := []
  responses   := []
  calls       := []

/-- The machine right after reset (10_state.md R60): no command issued, no transport call made. -/
def State.reset : State := State.afterReset 0

end Sys2Proof.Machine
end

