-- ==== Sys2Proof/Machine/Operands.lean ====
section
/-! DEFINITION. Operand forms: the identifier masks, widths and byte orders (00_scope.md R16, 20_memory.md R82), the bytes of the
`DATA` operand (30_encoding.md R100), the frame register a `SEL` selects, and the legality of `BAUD` (30_encoding.md R103). -/

namespace Sys2Proof.Machine

/-- `mask(k)` (00_scope.md R16). -/
def idMask : IdKind → BitVec 32
  | .standard => 0x7FF
  | .extended => 0x1FFFFFFF

/-- `idw(k)`: the identifier's width in bytes on the wire (00_scope.md R16). -/
def idWidth : IdKind → Nat
  | .standard => 2
  | .extended => 4

/-- Bits `8k+7 .. 8k` of an identifier. -/
def idByte (id : BitVec 32) (k : Nat) : Byte := id.extractLsb' (8 * k) 8

/-- The identifier's bytes, least significant first (20_memory.md R82, `LE`). -/
def idBytesLE (id : BitVec 32) : IdKind → List Byte
  | .standard => [idByte id 0, idByte id 1]
  | .extended => [idByte id 0, idByte id 1, idByte id 2, idByte id 3]

/-- `id_bytes(id, idw(k))` in the order `P_ID_ORDER` gives (20_memory.md R82). -/
def idBytes (o : IdOrder) (k : IdKind) (id : BitVec 32) : List Byte :=
  match o with
  | .le => idBytesLE id k
  | .be => (idBytesLE id k).reverse

/-- The value of bytes given least significant first. -/
def idValueLE (bs : List Byte) : BitVec 32 :=
  bs.foldr (fun b acc => (acc <<< 8) ||| b.setWidth 32) 0

/-- `id_value(bytes, w)`: the inverse of `id_bytes`, zero-extended (00_scope.md R16). -/
def idValue (o : IdOrder) (bs : List Byte) : BitVec 32 :=
  match o with
  | .le => idValueLE bs
  | .be => idValueLE bs.reverse

/-- Byte `k` of the `DATA` operand (30_encoding.md R100). -/
def dataByte (d : BitVec 64) (k : Nat) : Byte := d.extractLsb' (8 * k) 8

/-- `{F.DATA[7], …, F.DATA[0]}`: the payload buffer as `RDATA` (41_frame.md R166, 30_encoding.md R104). -/
def packData (v : Vector Byte 8) : BitVec 64 :=
  place 64 0 v[0] ||| place 64 8 v[1] ||| place 64 16 v[2] ||| place 64 24 v[3] ||| place 64 32 v[4] ||| place 64 40 v[5] |||
    place 64 48 v[6] ||| place 64 56 v[7]

/-- 30_encoding.md R103: the legal `BAUD` codes are `0x1..0xC`. -/
def baudLegal (baud : BitVec 4) : Bool := decide (1 ≤ baud) && decide (baud ≤ 12)

/-- The frame register `SEL` selects (41_frame.md R162). -/
def State.frame (s : State) : FrameSel → FrameReg
  | .txf => s.txf
  | .rxf => s.rxf

/-- Writes the frame register `SEL` selects. -/
def State.setFrame (s : State) (sel : FrameSel) (f : FrameReg) : State :=
  match sel with
  | .txf => { s with txf := f }
  | .rxf => { s with rxf := f }

end Sys2Proof.Machine
end

