-- ==== Sys2Proof/Machine/Flags.lean ====
section
/-! DEFINITION. The block has no flags (10_state.md R32). This file holds what takes their place: the numeric result codes, the
views a response carries (`state_view`, `progress`, the frame's meta value) and saturating addition. -/

namespace Sys2Proof.Machine

/-- The `RES` code of a result (60_exceptions.md R270). -/
def ResultCode.code : ResultCode → BitVec 4
  | .ok => 0
  | .tooMuchPayload => 1
  | .identifierOutOfRange => 2
  | .malformedFrame => 3
  | .transportUnavailable => 4
  | .statusUnavailable => 5
  | .notReady => 6
  | .noFrame => 7
  | .illegalCommand => 8
  | .transportWriteError => 9
  | .checksumMismatch => 10
  | .bufferOverflow => 11
  | .inProgress => 12
  | .packetMalformed => 13

/-- The code of `DF_STATE` (10_state.md R45). -/
def DfState.code : DfState → BitVec 2
  | .hunt => 0
  | .ctrl => 1
  | .body => 2

/-- The code of `SESS_STATE` (10_state.md R50). -/
def SessState.code : SessState → BitVec 2
  | .closed => 0
  | .configuring => 1
  | .ready => 2

/-- One bit. -/
def bitOf (b : Bool) : BitVec 1 := if b then 1 else 0

/-- `state_view() = {STATUS_FLAGS, TX_ERR, RX_ERR, 0b00000, TPORT_OPEN, SESS_STATE}` (44_session.md R258, 10_state.md R54). -/
def State.stateView (s : State) : BitVec 32 :=
  place 32 0 s.sessState.code ||| place 32 2 (bitOf s.tportOpen) ||| place 32 8 s.rxErr ||| place 32 16 s.txErr |||
    place 32 24 s.statusFlags

/-- `progress()` (43_data_frame.md R220): `RVAL[5:4] = DF_STATE`, `RVAL[3:0] = DF_N`. -/
def State.progress (s : State) : BitVec 32 := place 32 4 s.dfState.code ||| place 32 0 s.dfN

/-- `zext_32({F.IDE, F.RTR, F.LEN})` (41_frame.md R164). -/
def FrameReg.metaView (f : FrameReg) : BitVec 32 := place 32 5 f.ide.bit ||| place 32 4 f.rtr.bit ||| place 32 0 f.len

/-- `sat8(a + b)` (00_scope.md R16, 44_session.md R252). -/
def satAdd8 (a b : BitVec 8) : BitVec 8 := BitVec.ofNat 8 (min (a.toNat + b.toNat) 255)

/-- One counter of `update_counters` (44_session.md R252). -/
def updateCounter (u : CntUpdate) (old reported : BitVec 8) : BitVec 8 :=
  match u with
  | .satAccumulate => satAdd8 old reported
  | .assign => reported

/-- `zext_32({zext_8(TXLEN), zext_8(r)})`: what `SEND` returns (44_session.md R244). -/
def sendView (txlen : BitVec 5) (count : Nat) : BitVec 32 := 
  place 32 8 txlen ||| place 32 0 (BitVec.ofNat 8 count)

end Sys2Proof.Machine
end

