-- ==== Sys2Proof/Machine/Codec.lean ====
section
/-! DEFINITION. The packet functions, which touch no state: the checksum (40_checksum.md R140), the 20-byte packets and the
validator (42_command_packets.md), and the data-frame encoder and decoder (43_data_frame.md R202, R212). -/

namespace Sys2Proof.Machine

/-- `checksum(bytes)` (40_checksum.md R140): the low byte of a 16-bit sum. -/
def checksum (bs : List Byte) : Byte :=
  (bs.foldl (fun acc b => acc + b.setWidth 16) (0 : BitVec 16)).extractLsb' 0 8

/-- `bytes[2..19]` of a 20-byte packet: the 17 bytes at offsets 2 to 18 (30_encoding.md R113). -/
def packetBody (bs : List Byte) : List Byte := (bs.drop 2).take 17

/-- A 20-byte packet from its first 19 bytes: offset 19 is the checksum of offsets 2 to 18. -/
def sealPacket (bs : List Byte) : List Byte := bs ++ [checksum (packetBody bs)]

/-- `config_packet(b, m)` (42_command_packets.md R181, 30_encoding.md R110). -/
def configPacket (baud : BitVec 4) (mode : OpMode) : List Byte :=
  sealPacket [0xAA, 0x55, 0x12, baud.setWidth 8, 0x02, 0, 0, 0, 0, 0, 0, 0, 0, mode.code.setWidth 8, 0x01, 0, 0, 0, 0]

/-- `status_packet()` (42_command_packets.md R183, 30_encoding.md R114). -/
def statusPacket : List Byte :=
  sealPacket [0xAA, 0x55, 0x04, 0, 0, 0, 0, 0, 0, 0, 0, 0, 0, 0, 0, 0, 0, 0, 0]

/-- `validate_response(buf, n)` (42_command_packets.md R186). -/
def validateResponse (buf : Vector Byte 20) (n : Nat) : ResultCode :=
  if n ≠ 20 then .packetMalformed
  else if buf[0] ≠ 0xAA ∨ buf[1] ≠ 0x55 then .packetMalformed
  else if buf[19] ≠ checksum (packetBody buf.toList) then .checksumMismatch
  else .ok

/-- `parse_status(buf)`: `(flags, rx, tx)` at the offsets of the parameters (42_command_packets.md R190). -/
def parseStatus (P : Params) (buf : Vector Byte 20) : Byte × Byte × Byte :=
  (buf.toList.getD P.flagsOff 0, buf.toList.getD P.rxErrOff 0, buf.toList.getD P.txErrOff 0)

/-- The identifier kind a control byte names (30_encoding.md R117, bit 5). -/
def kindOfControl (c : Byte) : IdKind := .ofBit (c.extractLsb' 5 1)

/-- The DLC of a control byte (30_encoding.md R117, bits 3:0). -/
def dlcOfControl (c : Byte) : BitVec 4 := c.extractLsb' 0 4

/-- Whether a control byte is refused (43_data_frame.md R212, R220): wrong marker bits where they are checked, or DLC > 8. -/
def controlBad (P : Params) (c : Byte) : Bool :=
  (P.markerCheck && c.extractLsb' 6 2 != 3) || decide (8 < dlcOfControl c)

/-- The length of the packet a control byte begins: `3 + idw + DLC` (30_encoding.md R118). -/
def packetLength (c : Byte) : Nat := 3 + idWidth (kindOfControl c) + (dlcOfControl c).toNat

/-- `encode_frame(F)` (43_data_frame.md R202, 30_encoding.md R116). -/
def encodePacket (P : Params) (f : FrameReg) : List Byte :=
  startMarker :: controlByte f.ide f.rtr f.len ::
    (idBytes P.idOrder f.ide f.id ++ f.data.toList.take f.len.toNat ++ [endMarker])

/-- The payload buffer of a frame of `n` bytes read from `byte`, its tail zero (43_data_frame.md R212, 41_frame.md R160). -/
def padPayload (n : Nat) (byte : Nat → Byte) : Vector Byte 8 :=
  Vector.ofFn fun j => if j.val < n then byte j else 0

/-- `decode_frame(buf, n)` on the `n` bytes `bs = buf[0..n]` (43_data_frame.md R212): an error, or the frame and the length
consumed. Nothing past the end of `bs` is read (R216): there is nothing there. -/
def decodePacketFrame (P : Params) (bs : List Byte) : Except ResultCode (FrameReg × Nat) :=
  match bs with
  | b :: c :: rest =>
    let k := kindOfControl c
    let w := idWidth k
    let n := dlcOfControl c
    let id := idValue P.idOrder (rest.take w)
    if b ≠ startMarker then .error .malformedFrame
    else if controlBad P c then .error .malformedFrame
    else if bs.length < packetLength c then .error .malformedFrame
    else if rest.getD (w + n.toNat) 0 ≠ endMarker then .error .malformedFrame
    else if idMask k < id then .error .identifierOutOfRange
    else .ok
      ({ valid := true, id := id, ide := k, rtr := .ofBit (c.extractLsb' 4 1), len := n
         data := padPayload n.toNat fun j => rest.getD (w + j) 0 }, packetLength c)
  | _ => .error .malformedFrame

end Sys2Proof.Machine
end

