-- ==== Sys2Proof/Machine/Ops.lean ====
section
/-! DEFINITION. The shared operations: giving a response, raising an error (00_scope.md R14: the block's only exception, which
takes no trap, 60_exceptions.md R272), reading and writing the buffers, calling the transport (00_scope.md R15), the arrival of
bytes from the adapter, reset (70_reset_and_hazards.md R300), and taking the next event from the inputs. -/

namespace Sys2Proof.Machine

/-- The outcome of a step of this machine. -/
abbrev Result := Host.Outcome State Fault Refusal

/-! ## Responses -/

/-- The command ends with the response `r` (30_encoding.md R104). -/
def State.respond (s : State) (r : Response) : Result := .next { s with responses := r :: s.responses }

/-- `return (OK, val, data)`. -/
def State.succeed (s : State) (val : BitVec 32) (data : BitVec 64) : Result := s.respond ⟨.ok, val, data⟩

/-- `raise E` (00_scope.md R14): the response is `(code(E), 0, 0)` and the writes made so far stay. Nothing else is saved and
no handler runs (60_exceptions.md R272); so there is no return from it either (R282). -/
def State.raise (s : State) (e : ResultCode) : Result := s.respond ⟨e, 0, 0⟩

/-! ## Buffers -/

/-- The bytes of `p` in the places of the first bytes of the second list, which is no longer than before. -/
def overlayList : List Byte → List Byte → List Byte
  | b :: p, _ :: bs => b :: overlayList p bs
  | _, bs => bs

theorem overlayList_length (p bs : List Byte) : (overlayList p bs).length = bs.length := by
  induction p generalizing bs with
  | nil => cases bs <;> rfl
  | cons b p ih => cases bs <;> simp [overlayList, ih]

/-- `buf` with the bytes of `p` written from offset 0 on; the bytes behind them stay (10_state.md R42). -/
def overlay {n : Nat} (p : List Byte) (buf : Vector Byte n) : Vector Byte n :=
  ⟨(overlayList p buf.toList).toArray, by simp [overlayList_length]⟩

/-- `TXBUF[i] <- p[i]` for the bytes of `p`, and `TXLEN <- len(p)` (10_state.md R42). -/
def State.loadTx (s : State) (p : List Byte) : State :=
  { s with txbuf := overlay p s.txbuf, txlen := BitVec.ofNat 5 p.length }

/-- `RXBUF[i] <- p[i]` for the bytes of `p`, and `RXLEN <- len(p)` (44_session.md R250). -/
def State.loadRx (s : State) (p : List Byte) : State :=
  { s with rxbuf := overlay p s.rxbuf, rxlen := BitVec.ofNat 5 p.length }

/-- `TXBUF[0..TXLEN]`. -/
def State.txBytes (s : State) : List Byte := s.txbuf.toList.take s.txlen.toNat

/-- `RXBUF[0..RXLEN]`. -/
def State.rxBytes (s : State) : List Byte := s.rxbuf.toList.take s.rxlen.toNat

/-! ## The transport (00_scope.md R15, 60_exceptions.md R290) -/

/-- The transport's next answer: the one already fixed, or else a free value (log entry 3). -/
def State.draw (s : State) : Draw :=
  match s.answers with
  | d :: _ => d
  | [] =>
    { err := Config.drawErr s.draws, count := Config.drawCount s.draws, lost := Config.drawLost s.draws
      arrived := Config.drawBytes s.draws }

/-- The next answer has been used. -/
def State.afterDraw (s : State) : State :=
  match s.answers with
  | _ :: ds => { s with answers := ds }
  | [] => { s with draws := s.draws + 1 }

/-- `T_open`'s answer: `true` is `OK`. -/
def State.openAnswer (s : State) : Bool := !s.draw.err

/-- The call `T_open(P_PATH, 2000000, 8, 1, None, None)` has been made (44_session.md R240). -/
def State.afterOpen (s : State) : State :=
  { s.afterDraw with calls := .tOpen Config.path Config.lineSettings s.openAnswer :: s.calls }

/-- `T_write(bytes)`'s answer: a count in `0..len(bytes)`, or `none` for `ERR` (20_memory.md R87). -/
def State.writeAnswer (s : State) (bytes : List Byte) : Option Nat :=
  if s.draw.err then none else some (min s.draw.count bytes.length)

/-- The call `T_write(bytes)` has been made. -/
def State.afterWrite (s : State) (bytes : List Byte) : State :=
  { s.afterDraw with calls := .tWrite bytes (s.writeAnswer bytes) :: s.calls }

/-- The bytes that can be read when a `T_read` is answered: the unread ones that are still there, oldest first, then those that
have arrived since (20_memory.md R92, log entry 4). -/
def State.available (s : State) : List Byte := s.unread.drop s.draw.lost ++ s.draw.arrived

/-- `T_read(n)`'s answer: `0..n` bytes, the oldest unread ones (20_memory.md R92), or `none` for `ERR`. -/
def State.readAnswer (s : State) (n : Nat) : Option (List Byte) :=
  if s.draw.err then none else some (s.available.take (min s.draw.count n))

/-- The call `T_read(n)` has been made: what it answered is no longer unread (20_memory.md R88). -/
def State.afterRead (s : State) (n : Nat) : State :=
  { s.afterDraw with
    unread := if s.draw.err then s.available else s.available.drop (min s.draw.count n)
    calls := .tRead n (s.readAnswer n) :: s.calls }

/-- The call `T_close()` has been made; it has no answer (00_scope.md R15). -/
def State.afterClose (s : State) : State := { s with calls := .tClose :: s.calls }

/-- Bytes from the adapter arrive: they stand unread in the transport, and the block does nothing (20_memory.md R90,
60_exceptions.md R278; log entries 5 and 16). -/
def State.arrive (s : State) (bytes : List Byte) : State := { s with unread := s.unread ++ bytes }

/-- The bytes that a call is taken to have sent: the first `count` of a `T_write` that answered a count (20_memory.md R87). -/
def TransportCall.sent : TransportCall → List Byte
  | .tWrite bytes (some n) => bytes.take n
  | .tWrite _ none => []
  | .tOpen _ _ _ => []
  | .tRead _ _ => []
  | .tClose => []

/-! ## The inputs -/

/-- Reset (70_reset_and_hazards.md R300): every field of the block takes its value of 10_state.md R60; no transport call is made;
what is around the block stays, but for the counter of free values (log entry 9). -/
def State.resetBlock (s : State) : State :=
  { State.afterReset s.draws with
    port := s.port, answers := s.answers, unread := s.unread, responses := s.responses, calls := s.calls }

/-- The next event at the inputs and the state once it is taken; none when nothing is presented. -/
def State.takeEvent (s : State) : Option (PortEvent × State) :=
  match s.port with
  | [] => none
  | e :: es => some (e, { s with port := es })

/-- Something that decodes to no instruction is presented: a command word fails `IllegalCommand` and changes nothing
(30_encoding.md R120); bytes that form no packet arrive all the same (log entry 16). -/
def State.takeUndecodable (s : State) : Image → Result
  | .command _ => s.raise .illegalCommand
  | .packet bs => .next (s.arrive bs)

end Sys2Proof.Machine
end

