-- ==== Sys2Proof/Machine/Checksum.lean ====
section
/-! DEFINITION. The checksum commands (40_checksum.md). -/

namespace Sys2Proof.Machine

/-- `CSUM_CLR` (40_checksum.md R142). -/
def execCsumClr (s : State) : Result := { s with csumAcc := 0 }.succeed 0 0

/-- `CSUM_ADD byte=b` (40_checksum.md R144). -/
def execCsumAdd (b : Byte) (s : State) : Result := { s with csumAcc := s.csumAcc + b.setWidth 16 }.succeed 0 0

/-- `CSUM_RD` (40_checksum.md R146). -/
def execCsumRd (s : State) : Result := s.succeed ((s.csumAcc.extractLsb' 0 8).setWidth 32) 0

end Sys2Proof.Machine
end

