-- ==== Sys2Proof/Machine/Packets.lean ====
section
/-! DEFINITION. The commands of the 20-byte packets (42_command_packets.md). -/

namespace Sys2Proof.Machine

/-- `BUILD_CONFIG baud, mode` (42_command_packets.md R180; an illegal `BAUD` is refused first, 30_encoding.md R106). -/
def execBuildConfig (baud : BitVec 4) (mode : OpMode) (s : State) : Result :=
  if baudLegal baud then (s.loadTx (configPacket baud mode)).succeed 20 0 else s.raise .illegalCommand

/-- `BUILD_STATUS` (42_command_packets.md R184). -/
def execBuildStatus (s : State) : Result := (s.loadTx statusPacket).succeed 20 0

/-- `CHECK_PKT` (42_command_packets.md R188). -/
def execCheckPkt (s : State) : Result :=
  let v := validateResponse s.rxbuf s.rxlen.toNat
  if v = .ok then s.succeed ((checksum (packetBody s.rxbuf.toList)).setWidth 32) 0 else s.raise v

end Sys2Proof.Machine
end

