-- ==== Sys2Proof/Machine/Frame.lean ====
section
/-! DEFINITION. The frame register commands (41_frame.md). -/

namespace Sys2Proof.Machine

/-- `FRAME_NEW` (41_frame.md R160). -/
def execFrameNew (ide : IdKind) (rtr : FrameKind) (len : BitVec 4) (id : BitVec 32) (data : BitVec 64) (s : State) : Result :=
  if 8 < len then s.raise .tooMuchPayload
  else if idMask ide < id then s.raise .identifierOutOfRange
  else
    { s with txf :=
        { valid := true, id := id, ide := ide, rtr := rtr, len := len
          data := padPayload len.toNat (dataByte data) } }.succeed 0 0

/-- A command that reads the frame register `sel`: `NoFrame` while it holds none (10_state.md R34). -/
def withFrame (s : State) (sel : FrameSel) (k : FrameReg → Result) : Result :=
  if (s.frame sel).valid then k (s.frame sel) else s.raise .noFrame

/-- `FRAME_RD_ID sel` (41_frame.md R162). -/
def execFrameRdId (sel : FrameSel) (s : State) : Result :=
  withFrame s sel fun f => s.succeed (f.id &&& idMask f.ide) 0

/-- `FRAME_RD_META sel` (41_frame.md R164). -/
def execFrameRdMeta (sel : FrameSel) (s : State) : Result :=
  withFrame s sel fun f => s.succeed f.metaView 0

/-- `FRAME_RD_DATA sel` (41_frame.md R166). -/
def execFrameRdData (sel : FrameSel) (s : State) : Result :=
  withFrame s sel fun f => s.succeed (f.len.setWidth 32) (packData f.data)

/-- `FRAME_WR_BYTE sel, idx, byte` (41_frame.md R168). -/
def execFrameWrByte (sel : FrameSel) (idx : BitVec 5) (b : Byte) (s : State) : Result :=
  if 7 < idx then s.raise .illegalCommand
  else withFrame s sel fun f =>
    (s.setFrame sel { f with data := f.data.setIfInBounds idx.toNat b }).succeed 0 0

end Sys2Proof.Machine
end

