-- ==== Sys2Proof/Machine/DataFrame.lean ====
section
/-! DEFINITION. The data-frame encoder, the receive buffer, the decoder and the deframer (43_data_frame.md). The operations whose
effect depends on a parameter of 00_scope.md R9 take the parameters as an argument; the meanings give them this hardware's. -/

namespace Sys2Proof.Machine

/-- `ENCODE sel` for given parameters (43_data_frame.md R200). -/
def encodeWith (P : Params) (sel : FrameSel) (s : State) : Result :=
  withFrame s sel fun f =>
    let p := encodePacket P f
    (s.loadTx p).succeed (BitVec.ofNat 32 p.length) 0

/-- `ENCODE sel` (43_data_frame.md R200). -/
def execEncode (sel : FrameSel) (s : State) : Result := encodeWith Config.params sel s

/-- `TX_RD idx` (43_data_frame.md R204). -/
def execTxRd (idx : BitVec 5) (s : State) : Result :=
  if s.txlen ≤ idx then s.raise .illegalCommand
  else s.succeed ((s.txbuf.toList.getD idx.toNat 0).setWidth 32) 0

/-- `RX_CLR` (43_data_frame.md R206). -/
def execRxClr (s : State) : Result := { s with rxlen := 0 }.succeed 0 0

/-- `RX_APPEND byte=b` (43_data_frame.md R208). -/
def execRxAppend (b : Byte) (s : State) : Result :=
  if s.rxlen = 20 then s.raise .bufferOverflow
  else
    { s with rxbuf := s.rxbuf.setIfInBounds s.rxlen.toNat b, rxlen := s.rxlen + 1 }.succeed ((s.rxlen + 1).setWidth 32) 0

/-- `DECODE` for given parameters (43_data_frame.md R210). -/
def decodeWith (P : Params) (s : State) : Result :=
  match decodePacketFrame P s.rxBytes with
  | .error e => s.raise e
  | .ok (f, n) => { s with rxf := f }.succeed (BitVec.ofNat 32 n) 0

/-- `DECODE` (43_data_frame.md R210). -/
def execDecode (s : State) : Result := decodeWith Config.params s

/-- `DF_BUF[0] <- b;  DF_N <- 1;  DF_STATE <- CTRL` (43_data_frame.md R220): a start marker has been seen. -/
def State.startPacket (s : State) (b : Byte) : State :=
  { s with dfBuf := s.dfBuf.set 0 b, dfN := 1, dfState := .ctrl }

/-- `restart(b)` (43_data_frame.md R220): the faulting byte is looked at again as a start marker. -/
def State.restart (s : State) (b : Byte) : State :=
  let h := { s with dfState := .hunt, dfN := 0 }
  if b = startMarker then h.startPacket b else h

/-- `RX_PUSH` in HUNT (43_data_frame.md R220). -/
def pushHunt (b : Byte) (s : State) : Result :=
  let t := if b = startMarker then s.startPacket b else s
  t.respond ⟨.inProgress, t.progress, 0⟩

/-- `RX_PUSH` in CTRL (43_data_frame.md R220). -/
def pushCtrl (P : Params) (b : Byte) (s : State) : Result :=
  if controlBad P b then (s.restart b).raise .malformedFrame
  else
    let t := { s with dfBuf := s.dfBuf.set 1 b, dfN := 2, dfExp := BitVec.ofNat 4 (packetLength b), dfState := .body }
    t.respond ⟨.inProgress, t.progress, 0⟩

/-- `RX_PUSH` in BODY (43_data_frame.md R220). -/
def pushBody (P : Params) (b : Byte) (s : State) : Result :=
  let t := { s with dfBuf := s.dfBuf.setIfInBounds s.dfN.toNat b, dfN := s.dfN + 1 }
  if t.dfN < t.dfExp then t.respond ⟨.inProgress, t.progress, 0⟩
  else if b ≠ endMarker then (t.restart b).raise .malformedFrame
  else
    let h := { t with dfState := .hunt, dfN := 0 }
    match decodePacketFrame P (t.dfBuf.toList.take t.dfExp.toNat) with
    | .error e => h.raise e
    | .ok (f, n) => { h with rxf := f }.succeed (BitVec.ofNat 32 n) 0

/-- `RX_PUSH byte=b` for given parameters (43_data_frame.md R220). -/
def pushWith (P : Params) (b : Byte) (s : State) : Result :=
  match s.dfState with
  | .hunt => pushHunt b s
  | .ctrl => pushCtrl P b s
  | .body => pushBody P b s

/-- `RX_PUSH byte=b` (43_data_frame.md R220). -/
def execRxPush (b : Byte) (s : State) : Result := pushWith Config.params b s

end Sys2Proof.Machine
end

