-- ==== Sys2Proof/Machine/Session.lean ====
section
/-! DEFINITION. The session sequencer (44_session.md). -/

namespace Sys2Proof.Machine

/-- `OPEN` after a successful `T_open`: the counters are cleared, the configuration packet built and handed to the transport,
and the session is Ready only when all 20 bytes went (44_session.md R240). -/
def configureSession (baud : BitVec 4) (mode : OpMode) (s : State) : Result :=
  let t := { s with tportOpen := true, rxErr := 0, txErr := 0, statusFlags := 0 }.loadTx (configPacket baud mode)
  let w := t.afterWrite t.txBytes
  let failed := { w.afterClose with tportOpen := false, sessState := .closed }.raise .transportUnavailable
  match t.writeAnswer t.txBytes with
  | none => failed
  | some n => if n < 20 then failed else { w with sessState := .ready }.succeed 20 0

/-- `OPEN baud, mode` (44_session.md R240; an illegal `BAUD` is refused first, 30_encoding.md R106). -/
def execOpen (baud : BitVec 4) (mode : OpMode) (s : State) : Result :=
  if !baudLegal baud then s.raise .illegalCommand
  else if s.sessState ≠ .closed then s.raise .notReady
  else
    let c := { s with sessState := .configuring }
    if c.openAnswer then configureSession baud mode c.afterOpen
    else { c.afterOpen with sessState := .closed }.raise .transportUnavailable

/-- `SEND sel` for given parameters (44_session.md R244). -/
def sendWith (P : Params) (sel : FrameSel) (s : State) : Result :=
  if s.sessState ≠ .ready then s.raise .notReady
  else withFrame s sel fun f =>
    let t := s.loadTx (encodePacket P f)
    let w := t.afterWrite t.txBytes
    match t.writeAnswer t.txBytes with
    | none => w.raise .transportWriteError
    | some n => w.succeed (sendView t.txlen n) 0

/-- `SEND sel` (44_session.md R244). -/
def execSend (sel : FrameSel) (s : State) : Result := sendWith Config.params sel s

/-- `POLL_STATUS` once the response `d` has been read: it is kept in `RXBUF`, and a valid one updates the counters and the flags
(44_session.md R250, R252). -/
def takeStatus (P : Params) (d : List Byte) (s : State) : Result :=
  let t := s.loadRx d
  if d.length < 20 then t.raise .statusUnavailable
  else if validateResponse t.rxbuf 20 ≠ .ok then t.raise .statusUnavailable
  else
    let (fl, rx, tx) := parseStatus P t.rxbuf
    let u := { t with
      rxErr := updateCounter P.cntUpdate t.rxErr rx
      txErr := updateCounter P.cntUpdate t.txErr tx
      statusFlags := fl }
    u.succeed u.stateView 0

/-- `POLL_STATUS` for given parameters (44_session.md R250). -/
def pollWith (P : Params) (s : State) : Result :=
  if s.sessState ≠ .ready then s.raise .notReady
  else
    let t := s.loadTx statusPacket
    let w := t.afterWrite t.txBytes
    match t.writeAnswer t.txBytes with
    | none => w.raise .transportWriteError
    | some n =>
      if n < 20 then w.raise .statusUnavailable
      else
        match w.readAnswer 20 with
        | none => (w.afterRead 20).raise .statusUnavailable
        | some d => takeStatus P d (w.afterRead 20)

/-- `POLL_STATUS` (44_session.md R250). -/
def execPollStatus (s : State) : Result := pollWith Config.params s

/-- `CLOSE` (44_session.md R256). -/
def execClose (s : State) : Result :=
  let t := if s.tportOpen then { s.afterClose with tportOpen := false } else s
  { t with sessState := .closed }.succeed 0 0

/-- `RD_STATE` (44_session.md R258). -/
def execRdState (s : State) : Result := s.succeed s.stateView 0

end Sys2Proof.Machine
end

