-- ==== Sys2Proof/Machine/Wire.lean ====
section
/-! DEFINITION. The wire-packet rows of spec/opcode_table.json. They are no commands: as a step of the machine each is the arrival
of that packet from the adapter in the transport's unread stream (30_encoding.md R110 to R118, 20_memory.md R92; log entry 5),
where `POLL_STATUS` finds it. The block gives no response and does nothing (20_memory.md R90, 60_exceptions.md R278). -/

namespace Sys2Proof.Machine

/-- A packet arrives. -/
def receivePacket (i : Instr) (s : State) : Result := .next (s.arrive (wireBytes i))

/-- `WIRE_CONFIG` (30_encoding.md R110). -/
def execWireConfig (baud : Byte) (mode : OpMode) (csum : Byte) (s : State) : Result :=
  receivePacket (.wireConfig baud mode csum) s

/-- `WIRE_STATUS` (30_encoding.md R114). -/
def execWireStatus (s : State) : Result := receivePacket .wireStatus s

/-- `WIRE_STATUS_RESPONSE` (30_encoding.md R115). -/
def execWireStatusResponse (body : Vector Byte 17) (csum : Byte) (s : State) : Result :=
  receivePacket (.wireStatusResponse body csum) s

/-- `WIRE_DATA_STD_DATA` (30_encoding.md R116, R117). -/
def execWireDataStdData (dlc : BitVec 4) (id : Vector Byte 2) (payload : List Byte) (fin : Byte) (s : State) : Result :=
  receivePacket (.wireDataStdData dlc id payload fin) s

/-- `WIRE_DATA_STD_REMOTE` (30_encoding.md R116, R117). -/
def execWireDataStdRemote (dlc : BitVec 4) (id : Vector Byte 2) (payload : List Byte) (fin : Byte) (s : State) : Result :=
  receivePacket (.wireDataStdRemote dlc id payload fin) s

/-- `WIRE_DATA_EXT_DATA` (30_encoding.md R116, R117). -/
def execWireDataExtData (dlc : BitVec 4) (id : Vector Byte 4) (payload : List Byte) (fin : Byte) (s : State) : Result :=
  receivePacket (.wireDataExtData dlc id payload fin) s

/-- `WIRE_DATA_EXT_REMOTE` (30_encoding.md R116, R117). -/
def execWireDataExtRemote (dlc : BitVec 4) (id : Vector Byte 4) (payload : List Byte) (fin : Byte) (s : State) : Result :=
  receivePacket (.wireDataExtRemote dlc id payload fin) s

end Sys2Proof.Machine
end

