-- ==== Sys2Proof/Machine/Dispatch.lean ====
section
/-! DEFINITION. One arm per instruction. -/

namespace Sys2Proof.Machine

def exec (i : Instr) (s : State) : Host.Outcome State Fault Refusal :=
  match i with
  | .csumClr => Sys2Proof.Machine.execCsumClr s
  | .csumAdd byte => Sys2Proof.Machine.execCsumAdd byte s
  | .csumRd => Sys2Proof.Machine.execCsumRd s
  | .frameNew ide rtr len id data => Sys2Proof.Machine.execFrameNew ide rtr len id data s
  | .frameRdId sel => Sys2Proof.Machine.execFrameRdId sel s
  | .frameRdMeta sel => Sys2Proof.Machine.execFrameRdMeta sel s
  | .frameRdData sel => Sys2Proof.Machine.execFrameRdData sel s
  | .frameWrByte sel idx byte => Sys2Proof.Machine.execFrameWrByte sel idx byte s
  | .buildConfig baud mode => Sys2Proof.Machine.execBuildConfig baud mode s
  | .buildStatus => Sys2Proof.Machine.execBuildStatus s
  | .encodeFrame sel => Sys2Proof.Machine.execEncode sel s
  | .txRd idx => Sys2Proof.Machine.execTxRd idx s
  | .rxClr => Sys2Proof.Machine.execRxClr s
  | .rxAppend byte => Sys2Proof.Machine.execRxAppend byte s
  | .decodeFrame => Sys2Proof.Machine.execDecode s
  | .checkPkt => Sys2Proof.Machine.execCheckPkt s
  | .rxPush byte => Sys2Proof.Machine.execRxPush byte s
  | .openSession baud mode => Sys2Proof.Machine.execOpen baud mode s
  | .send sel => Sys2Proof.Machine.execSend sel s
  | .pollStatus => Sys2Proof.Machine.execPollStatus s
  | .close => Sys2Proof.Machine.execClose s
  | .rdState => Sys2Proof.Machine.execRdState s
  | .wireConfig baud mode csum => Sys2Proof.Machine.execWireConfig baud mode csum s
  | .wireStatus => Sys2Proof.Machine.execWireStatus s
  | .wireStatusResponse body csum => Sys2Proof.Machine.execWireStatusResponse body csum s
  | .wireDataStdData dlc id payload fin => Sys2Proof.Machine.execWireDataStdData dlc id payload fin s
  | .wireDataStdRemote dlc id payload fin => Sys2Proof.Machine.execWireDataStdRemote dlc id payload fin s
  | .wireDataExtData dlc id payload fin => Sys2Proof.Machine.execWireDataExtData dlc id payload fin s
  | .wireDataExtRemote dlc id payload fin => Sys2Proof.Machine.execWireDataExtRemote dlc id payload fin s

end Sys2Proof.Machine
end

