-- ==== Sys2Proof/Machine/Step.lean ====
section
/-! DEFINITION. One step of the machine: the next event at the block's inputs is taken (60_exceptions.md R299, log entry 6). -/

namespace Sys2Proof.Machine

/-- One step. With nothing presented the block holds its state and does nothing (60_exceptions.md R298); a reset resets it
(70_reset_and_hazards.md R300); what is presented is decoded and performed, or is no instruction (30_encoding.md R106). -/
def step (s : State) : Host.Outcome State Fault Refusal :=
  match s.takeEvent with
  | none => .next s
  | some (.reset, t) => .next t.resetBlock
  | some (.present img, t) =>
    match decode img with
    | .ok i => exec i t
    | .error _ => t.takeUndecodable img

/-- `s` with the instruction whose bits are `w` (as spec/opcode_table.json numbers them) presented next: the host issues it, or
the packet arrives (log entry 6). -/
def State.withFetchWord (s : State) (nbits w : Nat) : State := { s with port := .present (tableImage nbits w) :: s.port }

end Sys2Proof.Machine
end

