-- ==== Sys2Proof/Machine/Assembler.lean ====
section
/-! DEFINITION. The assembler text of a command (30_encoding.md R122) and the pseudo-commands (R123). Text and shorthands only: no
meaning depends on them. -/

namespace Sys2Proof.Machine

/-- One hexadecimal digit, in capitals. -/
def hexDigit (n : Nat) : String :=
  match n with
  | 10 => "A"
  | 11 => "B"
  | 12 => "C"
  | 13 => "D"
  | 14 => "E"
  | 15 => "F"
  | n => toString n

/-- The hexadecimal digits of a number below `16 ^ k`, with no leading zeros. -/
def hexDigits : Nat → Nat → String
  | 0, _ => ""
  | k + 1, n => if n < 16 then hexDigit n else hexDigits k (n / 16) ++ hexDigit (n % 16)

/-- A number as `0x…`. -/
def hexText (n : Nat) : String := "0x" ++ hexDigits 8 n

/-- A byte as two hexadecimal digits. -/
def byteText (b : Byte) : String := hexDigit (b.toNat / 16) ++ hexDigit (b.toNat % 16)

/-- A list of bytes, byte 0 first, with the zero bytes at its end left out (30_encoding.md R122: missing bytes are zero). -/
def bytesText (bs : List Byte) : String :=
  "[" ++ " ".intercalate ((bs.reverse.dropWhile (· == 0)).reverse.map byteText) ++ "]"

/-- A bit as `0` or `1`. -/
def bitText (b : BitVec 1) : String := toString b.toNat

/-- The text of a command: its mnemonic and its used fields, in the order of 30_encoding.md R101 (R122). A wire packet has no
assembler text in the spec and is given none. -/
def asmText : Instr → String
  | .csumClr => "CSUM_CLR"
  | .csumAdd b => "CSUM_ADD byte=0x" ++ byteText b
  | .csumRd => "CSUM_RD"
  | .frameNew k r n i d =>
    "FRAME_NEW ide=" ++ bitText k.bit ++ ", rtr=" ++ bitText r.bit ++ ", len=" ++ toString n.toNat ++ ", id=" ++ hexText i.toNat ++
      (if d = 0 then "" else ", data=" ++ bytesText ((bytesOfNat 8 d.toNat).reverse))
  | .frameRdId s => "FRAME_RD_ID sel=" ++ bitText s.bit
  | .frameRdMeta s => "FRAME_RD_META sel=" ++ bitText s.bit
  | .frameRdData s => "FRAME_RD_DATA sel=" ++ bitText s.bit
  | .frameWrByte s j b => "FRAME_WR_BYTE sel=" ++ bitText s.bit ++ ", idx=" ++ toString j.toNat ++ ", byte=0x" ++ byteText b
  | .buildConfig b m => "BUILD_CONFIG baud=" ++ hexText b.toNat ++ ", mode=" ++ toString m.code.toNat
  | .buildStatus => "BUILD_STATUS"
  | .encodeFrame s => "ENCODE sel=" ++ bitText s.bit
  | .txRd j => "TX_RD idx=" ++ toString j.toNat
  | .rxClr => "RX_CLR"
  | .rxAppend b => "RX_APPEND byte=0x" ++ byteText b
  | .decodeFrame => "DECODE"
  | .checkPkt => "CHECK_PKT"
  | .rxPush b => "RX_PUSH byte=0x" ++ byteText b
  | .openSession b m => "OPEN baud=" ++ hexText b.toNat ++ ", mode=" ++ toString m.code.toNat
  | .send s => "SEND sel=" ++ bitText s.bit
  | .pollStatus => "POLL_STATUS"
  | .close => "CLOSE"
  | .rdState => "RD_STATE"
  | .wireConfig .. | .wireStatus | .wireStatusResponse .. | .wireDataStdData .. | .wireDataStdRemote ..
  | .wireDataExtData .. | .wireDataExtRemote .. => ""

/-- The pseudo-command `CSUM bytes=[…]` (30_encoding.md R123). -/
def pseudoCsum (bs : List Byte) : List Instr := .csumClr :: (bs.map Instr.csumAdd ++ [.csumRd])

/-- The pseudo-command `RX_LOAD bytes=[…]`, at most 20 bytes (30_encoding.md R123). -/
def pseudoRxLoad (bs : List Byte) : List Instr := .rxClr :: bs.map Instr.rxAppend

/-- The pseudo-command `TX_DUMP` when `TXLEN` is `n` (30_encoding.md R123). -/
def pseudoTxDump (n : BitVec 5) : List Instr := (List.range n.toNat).map fun i => .txRd (BitVec.ofNat 5 i)

end Sys2Proof.Machine
end

