-- ==== Sys2Proof/WellFormed.lean ====
section
/-! DEFINITION. Well-formed instructions: the static checks of 30_encoding.md R106 stage (3) for commands, and for wire packets
what makes a packet of that row a good one (R110, R115, R116, R119). -/

namespace Sys2Proof

open Sys2Proof.Machine

/-- `payload`, `id` and `fin` of a data-frame packet agree with its control byte (30_encoding.md R116, R117, R119), the
identifier being read in the order of `P_ID_ORDER`. -/
def wellFormedData (k : IdKind) (dlc : BitVec 4) (id payload : List Byte) (fin : Byte) : Bool :=
  decide (dlc ≤ 8) && payload.length == dlc.toNat && fin == endMarker &&
    decide (idValue Config.params.idOrder id ≤ idMask k)

/-- The instruction is one its decoding can give and whose operands are legal. Operand values that the operation itself judges
(`FRAME_NEW`'s `LEN` and `ID`, 30_encoding.md R105; `TX_RD`'s `IDX`, which depends on `TXLEN`) are not judged here. -/
def WellFormed : Instr → Bool
  | .frameWrByte _ idx _ => decide (idx ≤ 7)
  | .buildConfig baud _ => baudLegal baud
  | .openSession baud _ => baudLegal baud
  | .wireConfig baud m cs =>
    decide (1 ≤ baud) && decide (baud ≤ 12) && cs == checksum (packetBody (wireBytes (.wireConfig baud m cs)))
  | .wireStatusResponse body cs => cs == checksum body.toList
  | .wireDataStdData n i p e => wellFormedData .standard n i.toList p e
  | .wireDataStdRemote n i p e => wellFormedData .standard n i.toList p e
  | .wireDataExtData n i p e => wellFormedData .extended n i.toList p e
  | .wireDataExtRemote n i p e => wellFormedData .extended n i.toList p e
  | .csumClr | .csumAdd _ | .csumRd | .frameNew .. | .frameRdId _ | .frameRdMeta _ | .frameRdData _ | .buildStatus
  | .encodeFrame _ | .txRd _ | .rxClr | .rxAppend _ | .decodeFrame | .checkPkt | .rxPush _ | .send _ | .pollStatus | .close
  | .rdState | .wireStatus => true

end Sys2Proof
end

