-- ==== Sys2Proof/Safety.lean ====
section
/-! DEFINITION. The terms claims are stated in: the invariants the spec gives the state, which result codes a command may return
(60_exceptions.md R274), and running several instructions in a row. -/

namespace Sys2Proof.Machine

/-- 10_state.md R35: what a frame register with `VALID = 1` satisfies. -/
def FrameReg.Legal (f : FrameReg) : Prop := f.valid = true → f.len ≤ 8 ∧ f.id ≤ idMask f.ide

/-- 10_state.md R36: the payload bytes behind the length are zero. -/
def FrameReg.TailZero (f : FrameReg) : Prop := ∀ j : Fin 8, f.len.toNat ≤ j.val → f.data[j] = 0

/-- 10_state.md R42: `TXLEN` is 0, 5..15 or 20. -/
def State.TxLegal (s : State) : Prop := s.txlen = 0 ∨ (5 ≤ s.txlen ∧ s.txlen ≤ 15) ∨ s.txlen = 20

/-- 10_state.md R43: `RXLEN` is at most 20. -/
def State.RxLegal (s : State) : Prop := s.rxlen ≤ 20

/-- 10_state.md R45 with 43_data_frame.md R220: in HUNT nothing is held; in CTRL one byte, the start marker; in BODY the start
marker, an accepted control byte, the length it gives, and at least those two bytes but not yet all. -/
def State.DeframerLegal (P : Params) (s : State) : Prop :=
  match s.dfState with
  | .hunt => s.dfN = 0
  | .ctrl => s.dfN = 1 ∧ s.dfBuf[0] = startMarker
  | .body =>
    2 ≤ s.dfN ∧ s.dfN < s.dfExp ∧ s.dfBuf[0] = startMarker ∧ controlBad P s.dfBuf[1] = false ∧
      s.dfExp.toNat = packetLength s.dfBuf[1]

/-- 10_state.md R50, R51: between commands the session is Closed or Ready, and `TPORT_OPEN = 1` exactly when it is Ready. -/
def State.SessionLegal (s : State) : Prop :=
  s.sessState ≠ .configuring ∧ (s.tportOpen = true ↔ s.sessState = .ready)

/-- What holds of the block between commands. -/
structure State.Inv (s : State) : Prop where
  txf      : s.txf.Legal
  rxf      : s.rxf.Legal
  tx       : s.TxLegal
  rx       : s.RxLegal
  deframer : s.DeframerLegal Config.params
  session  : s.SessionLegal

/-- The table of 60_exceptions.md R274: the codes a command can return besides `OK` and `IllegalCommand`. A wire packet returns
none. -/
def allowedCodes : Instr → List ResultCode
  | .csumClr | .csumAdd _ | .csumRd | .buildStatus | .rxClr | .close | .rdState => []
  | .buildConfig .. => []
  | .frameNew .. => [.tooMuchPayload, .identifierOutOfRange]
  | .frameRdId _ | .frameRdMeta _ | .frameRdData _ | .frameWrByte .. | .encodeFrame _ => [.noFrame]
  | .txRd _ => []
  | .rxAppend _ => [.bufferOverflow]
  | .decodeFrame => [.malformedFrame, .identifierOutOfRange]
  | .rxPush _ => [.inProgress, .malformedFrame, .identifierOutOfRange]
  | .checkPkt => [.packetMalformed, .checksumMismatch]
  | .openSession .. => [.notReady, .transportUnavailable]
  | .send _ => [.notReady, .noFrame, .transportWriteError]
  | .pollStatus => [.notReady, .transportWriteError, .statusUnavailable]
  | .wireConfig .. | .wireStatus | .wireStatusResponse .. | .wireDataStdData .. | .wireDataStdRemote ..
  | .wireDataExtData .. | .wireDataExtRemote .. => []

/-- Instructions performed one after the other (20_memory.md R90), each on the state the one before left. -/
def execAll : List Instr → State → Result
  | [], s => .next s
  | i :: is, s =>
    match exec i s with
    | .next t => execAll is t
    | .fault r => .fault r
    | .refused r => .refused r

/-- The "Errors" clause every command rule carries (30_encoding.md R101, R106): a command word with the operation's `OP` and a
nonzero `RSV` or unused field, when it is presented, is answered `IllegalCommand` and changes nothing. -/
def RefusesOtherFields (o : Opcode) : Prop :=
  ∀ (s : State) (c : CmdWord) (es : List PortEvent), s.port = .present (.command c) :: es →
    opcodeOf (fieldsOfWord c).op = some o → unusedZero (usesOf o) (fieldsOfWord c) = false →
    step s = .next { s with port := es, responses := ⟨.illegalCommand, 0, 0⟩ :: s.responses }

/-- 43_data_frame.md R212: the conditions under which a byte sequence is a well-framed data-frame packet, bytes after the end
marker not examined. -/
def WellFramed (P : Params) (bs : List Byte) : Prop :=
  ∃ c, bs[0]? = some 0xAA ∧ bs[1]? = some c ∧ (P.markerCheck = true → c.extractLsb' 6 2 = 3) ∧ c.extractLsb' 0 4 ≤ 8#4 ∧
    packetLength c ≤ bs.length ∧ bs[packetLength c - 1]? = some 0x55

/-- Two frame registers a command cannot tell apart: both hold nothing, or they are equal (10_state.md R34, R60). -/
def FrameReg.SameVisible (f g : FrameReg) : Prop := f.valid = g.valid ∧ (f.valid = true → f = g)

/-- Two states that differ at most in what 10_state.md R60 calls unspecified: the fields of a frame register with `VALID = 0`, and
buffer bytes at or past the buffer's length. -/
structure State.SameVisible (s t : State) : Prop where
  txf   : s.txf.SameVisible t.txf
  rxf   : s.rxf.SameVisible t.rxf
  txbuf : s.txBytes = t.txBytes
  rxbuf : s.rxBytes = t.rxBytes
  dfBuf : s.dfBuf.toList.take s.dfN.toNat = t.dfBuf.toList.take t.dfN.toNat
  rest  : t = { s with txf := t.txf, rxf := t.rxf, txbuf := t.txbuf, rxbuf := t.rxbuf, dfBuf := t.dfBuf }

/-- The bytes the block is taken to have sent to the transport, in order (20_memory.md R87, R92). -/
def State.sentBytes (s : State) : List Byte := s.calls.reverse.flatMap TransportCall.sent

/-- The response given last; none when none has been given. -/
def State.lastResponse (s : State) : Option Response := s.responses.head?

end Sys2Proof.Machine
end

