-- ==== Sys2Proof/Certificates/Slice0/Obligations.lean ====
section
/-! DEFINITION. The statements for the provers, from the numbered rules of spec/. -/

open Sys2Proof Sys2Proof.Machine

/-! ## Decoding and encoding -/

/-- 30_encoding.md R100, R101, R106: decoding the word of a command gives the command back, every operand at every value. -/
def Obligations.DecodeOfEncodeIsTheCommand : Prop :=
  ∀ i : Instr, i.isCommand = true → decode (encode i) = .ok i

/-- 30_encoding.md R101, R102: a word has at most one meaning: a word that decodes to a command is that command's encoding. -/
def Obligations.DecodedWordIsTheEncoding : Prop :=
  ∀ (c : CmdWord) (i : Instr), decode (.command c) = .ok i → encode i = .command c

/-- 30_encoding.md R100: a command word and its fields determine one another, and every field stands at the bit positions of the
rule's table, `DATA` byte `k` at bits `64+8k+7 : 64+8k`. -/
def Obligations.CommandWordFieldsAtTheirBits : Prop :=
  (∀ c : CmdWord, wordOfFields (fieldsOfWord c) = c) ∧ (∀ f : Fields, fieldsOfWord (wordOfFields f) = f) ∧
    ∀ f : Fields, (wordOfFields f).toNat =
      f.op.toNat + 2 ^ 5 * f.sel.toNat + 2 ^ 6 * f.ide.toNat + 2 ^ 7 * f.rtr.toNat + 2 ^ 8 * f.len.toNat +
        2 ^ 12 * f.baud.toNat + 2 ^ 16 * f.mode.toNat + 2 ^ 18 * f.idx.toNat + 2 ^ 23 * f.rsv.toNat + 2 ^ 24 * f.byte.toNat +
        2 ^ 32 * f.id.toNat + 2 ^ 64 * f.data.toNat ∧
      ∀ k : Nat, k < 8 → dataByte f.data k = (wordOfFields f).extractLsb' (64 + 8 * k) 8

/-- 30_encoding.md R124: a word decodes to a command of an operation exactly when it matches the operation's row of
opcode_table.json, and no word matches two rows. -/
def Obligations.OpcodeTableRowsDecideDecoding : Prop :=
  (∀ (c : CmdWord) (o : Opcode),
    (∃ i, decode (.command c) = .ok i ∧ opcodeOfInstr i = some o) ↔ ∃ r ∈ opcodeRows, r.opcode = o ∧ c &&& r.mask = r.pat) ∧
    ∀ (c : CmdWord), ∀ r ∈ opcodeRows, ∀ q ∈ opcodeRows, c &&& r.mask = r.pat → c &&& q.mask = q.pat → r = q

/-- 30_encoding.md R101, R103: a few words written out from the encoding decode to the commands they stand for. -/
def Obligations.SampleWordsDecode : Prop :=
  decode (.command 0x00000000000000000000000012000002) = .ok (.csumAdd 0x12) ∧
    decode (.command 0x00000000003322110000012300000204) = .ok (.frameNew .standard .data 2 0x123 0x332211) ∧
    decode (.command 0x00000000000000000000000099040008) = .ok (.frameWrByte .txf 1 0x99) ∧
    decode (.command 0x0000000000000000000000000003C009) = .ok (.buildConfig 0xC .loopbackSilent) ∧
    decode (.command 0x0000000000000000000000000018000C) = .ok (.txRd 6) ∧
    decode (.command 0x00000000000000000000000000000027) = .ok (.frameRdData .rxf) ∧
    decode (.command 0x00000000000000000000000000007012) = .ok (.openSession 7 .normal) ∧
    decode (.packet [0xAA, 0xC2, 0x23, 0x01, 0x11, 0x22, 0x55]) =
      .ok (.wireDataStdData 2 #v[0x23, 0x01] [0x11, 0x22] 0x55)

/-- 30_encoding.md R102: a command with an unassigned `OP` fails `IllegalCommand` and changes nothing. -/
def Obligations.UnassignedOpIsIllegal : Prop :=
  ∀ (s : State) (c : CmdWord) (es : List PortEvent), s.port = .present (.command c) :: es →
    (c.extractLsb' 0 5 = 0 ∨ 0x17 ≤ (c.extractLsb' 0 5).toNat) →
    step s = .next { s with port := es, responses := ⟨.illegalCommand, 0, 0⟩ :: s.responses }

/-- 30_encoding.md R106, R120: for every operation a nonzero `RSV` or unused field, an illegal `BAUD` and an out-of-range `IDX`
fail `IllegalCommand` and change no state. -/
def Obligations.IllegalFieldsChangeNothing : Prop :=
  (∀ o : Opcode, RefusesOtherFields o) ∧
    (∀ (s : State) (baud : BitVec 4) (mode : OpMode), (baud = 0 ∨ 0xD ≤ baud.toNat) →
      exec (.buildConfig baud mode) s = .next { s with responses := ⟨.illegalCommand, 0, 0⟩ :: s.responses } ∧
      exec (.openSession baud mode) s = .next { s with responses := ⟨.illegalCommand, 0, 0⟩ :: s.responses }) ∧
    (∀ (s : State) (sel : FrameSel) (idx : BitVec 5) (b : Byte), 7 < idx.toNat →
      exec (.frameWrByte sel idx b) s = .next { s with responses := ⟨.illegalCommand, 0, 0⟩ :: s.responses }) ∧
    ∀ (s : State) (idx : BitVec 5), s.txlen.toNat ≤ idx.toNat →
      exec (.txRd idx) s = .next { s with responses := ⟨.illegalCommand, 0, 0⟩ :: s.responses }

/-- 30_encoding.md R110, R114, R115, R116, R117: decoding the bytes of a well-formed wire packet gives the packet back. A status
response is left out only where its bytes are also the status packet's or a configuration packet's (there the model's order
decides: log entry 20). -/
def Obligations.DecodeOfEncodeIsTheWirePacket : Prop :=
  ∀ i : Instr, i.isCommand = false → WellFormed i = true →
    (∀ body cs, i = .wireStatusResponse body cs →
      encode i ≠ encode .wireStatus ∧ ∀ b m c, encode i ≠ encode (.wireConfig b m c)) →
    decode (encode i) = .ok i

/-- 30_encoding.md R110, R114, R116: what the block sends are the table's wire packets: every configuration packet, the status
packet, and the packet of every legal frame under this hardware's parameters. -/
def Obligations.BuiltPacketsAreTableRows : Prop :=
  (∀ (baud : BitVec 4) (mode : OpMode), baudLegal baud = true →
    ∃ cs, WellFormed (.wireConfig (baud.setWidth 8) mode cs) = true ∧
      encode (.wireConfig (baud.setWidth 8) mode cs) = .packet (configPacket baud mode)) ∧
    encode .wireStatus = .packet statusPacket ∧
    ∀ f : FrameReg, f.valid = true → f.Legal →
      ∃ i, WellFormed i = true ∧ encode i = .packet (encodePacket Config.params f) ∧
        (match f.ide, f.rtr with
          | .standard, .data => ∃ id p, i = .wireDataStdData f.len id p 0x55
          | .standard, .remote => ∃ id p, i = .wireDataStdRemote f.len id p 0x55
          | .extended, .data => ∃ id p, i = .wireDataExtData f.len id p 0x55
          | .extended, .remote => ∃ id p, i = .wireDataExtRemote f.len id p 0x55)

/-! ## The step -/

/-- 30_encoding.md R106, 60_exceptions.md R299: a step takes the next event; what decodes is performed by `exec` on the state
with that event taken, and nothing else is added around it. -/
def Obligations.StepRunsTheDecodedInstruction : Prop :=
  ∀ (s : State) (img : Image) (es : List PortEvent) (i : Instr), s.port = .present img :: es → decode img = .ok i →
    step s = exec i { s with port := es }

/-- 60_exceptions.md R298: with nothing presented the block holds its state and does nothing. -/
def Obligations.IdleStepHoldsTheState : Prop :=
  ∀ s : State, s.port = [] → step s = .next s

/-- 60_exceptions.md R272: no condition is fatal: every step of every state answers a next state. -/
def Obligations.EveryStepAnswersANextState : Prop :=
  ∀ s : State, ∃ t, step s = .next t

/-- 30_encoding.md R104, 60_exceptions.md R274: every command gives exactly one response, with a code the table of R274 allows
it, and one that fails returns `RVAL = 0` and `RDATA = 0` (00_scope.md R14); a wire packet gives none (log entry 5). The codes are
the numbers of 60_exceptions.md R270, and 14 and 15 are never returned. -/
def Obligations.EveryCommandReturnsAnAllowedCode : Prop :=
  (∀ (i : Instr) (s t : State), exec i s = .next t →
    (i.isCommand = true → ∃ r, t.responses = r :: s.responses ∧ r.res ∈ .ok :: .illegalCommand :: allowedCodes i ∧
      r.res.code ≠ 14 ∧ r.res.code ≠ 15 ∧ (r.res ≠ .ok → r.res ≠ .inProgress → r.rval = 0 ∧ r.rdata = 0)) ∧
      (i.isCommand = false → t.responses = s.responses)) ∧
    ResultCode.ok.code = 0 ∧ ResultCode.tooMuchPayload.code = 1 ∧ ResultCode.identifierOutOfRange.code = 2 ∧
    ResultCode.malformedFrame.code = 3 ∧ ResultCode.transportUnavailable.code = 4 ∧ ResultCode.statusUnavailable.code = 5 ∧
    ResultCode.notReady.code = 6 ∧ ResultCode.noFrame.code = 7 ∧ ResultCode.illegalCommand.code = 8 ∧
    ResultCode.transportWriteError.code = 9 ∧ ResultCode.checksumMismatch.code = 10 ∧ ResultCode.bufferOverflow.code = 11 ∧
    ResultCode.inProgress.code = 12 ∧ ResultCode.packetMalformed.code = 13

/-- 00_scope.md R14, 60_exceptions.md R280: a failing command other than `OPEN`, `SEND`, `POLL_STATUS` and `RX_PUSH` changes
nothing. -/
def Obligations.FailedCommandChangesNothing : Prop :=
  ∀ (i : Instr) (s t : State) (r : Response), exec i s = .next t → t.responses = r :: s.responses → r.res ≠ .ok →
    (∀ b m, i ≠ .openSession b m) → (∀ sel, i ≠ .send sel) → i ≠ .pollStatus → (∀ b, i ≠ .rxPush b) →
    t = { s with responses := r :: s.responses }

/-! ## Reset -/

/-- 10_state.md R60: the value of every field the rule gives one, after reset. -/
def Obligations.ResetValues : Prop :=
  State.reset.txf.valid = false ∧ State.reset.rxf.valid = false ∧ State.reset.csumAcc = 0 ∧ State.reset.txlen = 0 ∧
    State.reset.rxlen = 0 ∧ State.reset.dfState.code = 0 ∧ State.reset.dfN = 0 ∧ State.reset.dfExp = 0 ∧
    State.reset.sessState.code = 0 ∧ State.reset.tportOpen = false ∧ State.reset.rxErr = 0 ∧ State.reset.txErr = 0 ∧
    State.reset.statusFlags = 0

/-- 70_reset_and_hazards.md R300: a reset between commands gives every field its value of R60, and makes no transport call: what
is around the block stays (that the model keeps the trace and the unread bytes is log entry 9). -/
def Obligations.ResetEventResetsTheBlock : Prop :=
  ∀ (s : State) (es : List PortEvent), s.port = .reset :: es → ∃ t, step s = .next t ∧
    t.txf.valid = false ∧ t.rxf.valid = false ∧ t.csumAcc = 0 ∧ t.txlen = 0 ∧ t.rxlen = 0 ∧ t.dfState = .hunt ∧ t.dfN = 0 ∧
    t.dfExp = 0 ∧ t.sessState = .closed ∧ t.tportOpen = false ∧ t.rxErr = 0 ∧ t.txErr = 0 ∧ t.statusFlags = 0 ∧
    t.calls = s.calls ∧ t.answers = s.answers ∧ t.unread = s.unread ∧ t.responses = s.responses ∧ t.port = es

/-! ## Invariants -/

/-- 10_state.md R35, R42, R43, R45, R50, R51: the invariant of the block holds after reset. -/
def Obligations.InvariantHoldsAtReset : Prop := State.reset.Inv

/-- 10_state.md R35, R42, R43, R45, R50, R51: every step keeps it: valid frames stay legal, `TXLEN` and `RXLEN` stay in their
ranges, the deframer holds what its state says, and the session is Closed or Ready with the transport open exactly when Ready. -/
def Obligations.EveryStepKeepsTheInvariant : Prop :=
  ∀ s t : State, s.Inv → step s = .next t → t.Inv

/-- 10_state.md R60, R34, R42, R43: what reset leaves unspecified is never observed: two states that satisfy the invariant and
differ only there step to states that differ only there, with the same responses, transport calls and everything else. -/
def Obligations.UnspecifiedFieldsAreNeverObserved : Prop :=
  ∀ s t : State, s.Inv → t.Inv → s.SameVisible t → ∃ s' t', step s = .next s' ∧ step t = .next t' ∧ s'.SameVisible t'

/-- 10_state.md R34, R37, R38: which commands write the frame registers; `VALID` is never cleared by a command; and
`FRAME_WR_BYTE` changes `DATA` alone. -/
def Obligations.FrameRegistersWrittenOnlyByTheirCommands : Prop :=
  ∀ (i : Instr) (s t : State), exec i s = .next t →
    ((∀ k r n d b, i ≠ .frameNew k r n d b) → (∀ j b, i ≠ .frameWrByte .txf j b) → t.txf = s.txf) ∧
    (i ≠ .decodeFrame → (∀ b, i ≠ .rxPush b) → (∀ j b, i ≠ .frameWrByte .rxf j b) → t.rxf = s.rxf) ∧
    (s.txf.valid = true → t.txf.valid = true) ∧ (s.rxf.valid = true → t.rxf.valid = true) ∧
    (∀ sel j b, i = .frameWrByte sel j b →
      t.txf = { s.txf with data := t.txf.data } ∧ t.rxf = { s.rxf with data := t.rxf.data })

/-- 10_state.md R40, R42, R43, R45, R52, R53: which commands write the accumulator, the buffers, the deframer, the counters and the
flags. -/
def Obligations.OtherRegistersWrittenOnlyByTheirCommands : Prop :=
  ∀ (i : Instr) (s t : State), exec i s = .next t →
    (i ≠ .csumClr → (∀ b, i ≠ .csumAdd b) → t.csumAcc = s.csumAcc) ∧
    ((∀ b m, i ≠ .buildConfig b m) → i ≠ .buildStatus → (∀ sel, i ≠ .encodeFrame sel) → (∀ b m, i ≠ .openSession b m) →
      (∀ sel, i ≠ .send sel) → i ≠ .pollStatus → t.txbuf = s.txbuf ∧ t.txlen = s.txlen) ∧
    (i ≠ .rxClr → (∀ b, i ≠ .rxAppend b) → i ≠ .pollStatus → t.rxbuf = s.rxbuf ∧ t.rxlen = s.rxlen) ∧
    ((∀ b, i ≠ .rxPush b) → t.dfState = s.dfState ∧ t.dfBuf = s.dfBuf ∧ t.dfN = s.dfN ∧ t.dfExp = s.dfExp) ∧
    ((∀ b m, i ≠ .openSession b m) → i ≠ .pollStatus →
      t.rxErr = s.rxErr ∧ t.txErr = s.txErr ∧ t.statusFlags = s.statusFlags)

/-- 20_memory.md R80, 44_session.md: only `OPEN`, `SEND`, `POLL_STATUS` and `CLOSE` call the transport, each in the order of its
rule. After a call that failed or was partial no call is repeated (60_exceptions.md R282): the only one still made is the `T_close`
of an `OPEN` whose write was not whole (44_session.md R240). -/
def Obligations.TransportCallsOfACommand : Prop :=
  ∀ (i : Instr) (s t : State), exec i s = .next t →
    ((∀ b m, i ≠ .openSession b m) → (∀ sel, i ≠ .send sel) → i ≠ .pollStatus → i ≠ .close →
      t.calls = s.calls ∧ t.answers = s.answers ∧ t.draws = s.draws) ∧
    (∀ b m, i = .openSession b m → t.calls = s.calls ∨
      t.calls = .tOpen Config.path Config.lineSettings false :: s.calls ∨
      t.calls = .tWrite (configPacket b m) (some 20) :: .tOpen Config.path Config.lineSettings true :: s.calls ∨
      ∃ w, w ≠ some 20 ∧
        t.calls = .tClose :: .tWrite (configPacket b m) w :: .tOpen Config.path Config.lineSettings true :: s.calls) ∧
    (∀ sel, i = .send sel → t.calls = s.calls ∨ ∃ w, t.calls = .tWrite t.txBytes w :: s.calls) ∧
    (i = .pollStatus → t.calls = s.calls ∨ (∃ w, w ≠ some 20 ∧ t.calls = .tWrite statusPacket w :: s.calls) ∨
      ∃ d, t.calls = .tRead 20 d :: .tWrite statusPacket (some 20) :: s.calls) ∧
    (i = .close → t.calls = s.calls ∨ t.calls = .tClose :: s.calls)

/-! ## Checksum unit -/

/-- 40_checksum.md R140. -/
def Obligations.ChecksumIsTheSumModulo256 : Prop :=
  (∀ bs : List Byte, (checksum bs).toNat = (bs.map BitVec.toNat).sum % 256) ∧ checksum [] = 0

/-- 40_checksum.md R141: the order of the bytes does not matter; one byte changed by `d` changes the checksum by `d`; two changes
that cancel are not seen. -/
def Obligations.ChecksumIgnoresTheOrder : Prop :=
  (∀ as bs : List Byte, as.Perm bs → checksum as = checksum bs) ∧
    (∀ (as bs : List Byte) (b d : Byte), checksum (as ++ (b + d) :: bs) = checksum (as ++ b :: bs) + d) ∧
    ∀ (as bs cs : List Byte) (b c d : Byte),
      checksum (as ++ (b + d) :: (bs ++ (c - d) :: cs)) = checksum (as ++ b :: (bs ++ c :: cs))

/-- 40_checksum.md R142. -/
def Obligations.CsumClrClearsTheAccumulator : Prop :=
  encode .csumClr = .command 0x1 ∧ RefusesOtherFields .csumClr ∧
    ∀ s : State, exec .csumClr s = .next { s with csumAcc := 0, responses := ⟨.ok, 0, 0⟩ :: s.responses }

/-- 40_checksum.md R144. -/
def Obligations.CsumAddAddsTheByte : Prop :=
  (∀ b : Byte, encode (.csumAdd b) = .command (b.setWidth 128 <<< 24 ||| 0x2)) ∧ RefusesOtherFields .csumAdd ∧
    ∀ (s : State) (b : Byte), ∃ acc : BitVec 16, acc.toNat = (s.csumAcc.toNat + b.toNat) % 2 ^ 16 ∧
      exec (.csumAdd b) s = .next { s with csumAcc := acc, responses := ⟨.ok, 0, 0⟩ :: s.responses }

/-- 40_checksum.md R146. -/
def Obligations.CsumRdReturnsTheLowByte : Prop :=
  encode .csumRd = .command 0x3 ∧ RefusesOtherFields .csumRd ∧
    ∀ s : State, ∃ v : BitVec 32, v.toNat = s.csumAcc.toNat % 256 ∧
      exec .csumRd s = .next { s with responses := ⟨.ok, v, 0⟩ :: s.responses }

/-- 40_checksum.md R149: clearing, adding the bytes in order and reading returns their checksum, from every state. -/
def Obligations.AccumulatorComputesTheChecksum : Prop :=
  ∀ (bs : List Byte) (s : State), ∃ t, execAll (pseudoCsum bs) s = .next t ∧
    t.lastResponse = some ⟨.ok, (checksum bs).setWidth 32, 0⟩ ∧ t = { s with csumAcc := t.csumAcc, responses := t.responses }

/-! ## Frame registers -/

/-- 41_frame.md R160: the two errors, in their order, change nothing; otherwise the whole frame is constructed into `TXF`. -/
def Obligations.FrameNewConstructsOrRefuses : Prop :=
  (∀ k r n id d, encode (.frameNew k r n id d) =
    .command (wordOfFields { op := 0x04, ide := k.bit, rtr := r.bit, len := n, id := id, data := d })) ∧
  RefusesOtherFields .frameNew ∧
  ∀ (s : State) (k : IdKind) (r : FrameKind) (n : BitVec 4) (id : BitVec 32) (d : BitVec 64),
    (8 < n.toNat → exec (.frameNew k r n id d) s = .next { s with responses := ⟨.tooMuchPayload, 0, 0⟩ :: s.responses }) ∧
    (n.toNat ≤ 8 → idMask k < id →
      exec (.frameNew k r n id d) s = .next { s with responses := ⟨.identifierOutOfRange, 0, 0⟩ :: s.responses }) ∧
    (n.toNat ≤ 8 → id ≤ idMask k → ∃ v : Vector Byte 8,
      (∀ j : Fin 8, v[j] = if j.val < n.toNat then d.extractLsb' (8 * j.val) 8 else 0) ∧
      exec (.frameNew k r n id d) s = .next { s with
        txf := { valid := true, id := id, ide := k, rtr := r, len := n, data := v }, responses := ⟨.ok, 0, 0⟩ :: s.responses })

/-- 41_frame.md R170: the source's properties of construction. -/
def Obligations.ConstructionLimits : Prop :=
  ∀ (s : State) (r : FrameKind) (d : BitVec 64),
    (∀ (n : BitVec 4) (id : BitVec 32), n ≤ 8 → id ≤ 0x7FF →
      ∃ t, exec (.frameNew .standard r n id d) s = .next t ∧ t.lastResponse = some ⟨.ok, 0, 0⟩ ∧ t.txf.len = n) ∧
    (∀ n : BitVec 4, n ≤ 8 →
      ∃ t, exec (.frameNew .standard r n 0x800 d) s = .next t ∧ t.lastResponse = some ⟨.identifierOutOfRange, 0, 0⟩) ∧
    (∀ (n : BitVec 4) (id : BitVec 32), n ≤ 8 → id ≤ 0x1FFFFFFF →
      ∃ t, exec (.frameNew .extended r n id d) s = .next t ∧ t.lastResponse = some ⟨.ok, 0, 0⟩ ∧ t.txf.len = n) ∧
    (∀ n : BitVec 4, n ≤ 8 →
      ∃ t, exec (.frameNew .extended r n 0x20000000 d) s = .next t ∧ t.lastResponse = some ⟨.identifierOutOfRange, 0, 0⟩) ∧
    ∀ (k : IdKind) (id : BitVec 32),
      ∃ t, exec (.frameNew k r 9 id d) s = .next t ∧ t.lastResponse = some ⟨.tooMuchPayload, 0, 0⟩

/-- 41_frame.md R162, R164, R166: the three reads of a frame register that holds a frame, and `NoFrame` when it holds none;
re-masking a legal identifier (10_state.md R35) never changes it. -/
def Obligations.FrameReadsReturnTheFields : Prop :=
  (∀ sel : FrameSel, encode (.frameRdId sel) = .command (wordOfFields { op := 0x05, sel := sel.bit }) ∧
    encode (.frameRdMeta sel) = .command (wordOfFields { op := 0x06, sel := sel.bit }) ∧
    encode (.frameRdData sel) = .command (wordOfFields { op := 0x07, sel := sel.bit })) ∧
  RefusesOtherFields .frameRdId ∧ RefusesOtherFields .frameRdMeta ∧ RefusesOtherFields .frameRdData ∧
  ∀ (s : State) (sel : FrameSel),
    ((s.frame sel).valid = true → ∃ m d,
      (m : BitVec 32).toNat = (s.frame sel).len.toNat + 2 ^ 4 * (s.frame sel).rtr.bit.toNat + 2 ^ 5 * (s.frame sel).ide.bit.toNat ∧
      (∀ j : Fin 8, (d : BitVec 64).extractLsb' (8 * j.val) 8 = (s.frame sel).data[j]) ∧
      exec (.frameRdId sel) s =
        .next { s with responses := ⟨.ok, (s.frame sel).id &&& idMask (s.frame sel).ide, 0⟩ :: s.responses } ∧
      exec (.frameRdMeta sel) s = .next { s with responses := ⟨.ok, m, 0⟩ :: s.responses } ∧
      exec (.frameRdData sel) s = .next { s with responses := ⟨.ok, (s.frame sel).len.setWidth 32, d⟩ :: s.responses }) ∧
    ((s.frame sel).valid = false →
      exec (.frameRdId sel) s = .next { s with responses := ⟨.noFrame, 0, 0⟩ :: s.responses } ∧
      exec (.frameRdMeta sel) s = .next { s with responses := ⟨.noFrame, 0, 0⟩ :: s.responses } ∧
      exec (.frameRdData sel) s = .next { s with responses := ⟨.noFrame, 0, 0⟩ :: s.responses }) ∧
    ((s.frame sel).valid = true → (s.frame sel).Legal → (s.frame sel).id &&& idMask (s.frame sel).ide = (s.frame sel).id)

/-- 41_frame.md R168: one byte of the payload buffer of the selected register changes, and nothing else; the errors. -/
def Obligations.FrameWrByteWritesOneByte : Prop :=
  (∀ sel idx b, encode (.frameWrByte sel idx b) =
    .command (wordOfFields { op := 0x08, sel := sel.bit, idx := idx, byte := b })) ∧
  RefusesOtherFields .frameWrByte ∧
  ∀ (s : State) (sel : FrameSel) (idx : BitVec 5) (b : Byte),
    (7 < idx.toNat → exec (.frameWrByte sel idx b) s = .next { s with responses := ⟨.illegalCommand, 0, 0⟩ :: s.responses }) ∧
    (idx.toNat ≤ 7 → (s.frame sel).valid = false →
      exec (.frameWrByte sel idx b) s = .next { s with responses := ⟨.noFrame, 0, 0⟩ :: s.responses }) ∧
    (idx.toNat ≤ 7 → (s.frame sel).valid = true → ∃ v : Vector Byte 8,
      (∀ j : Fin 8, v[j] = if j.val = idx.toNat then b else (s.frame sel).data[j]) ∧
      exec (.frameWrByte sel idx b) s = .next { s.setFrame sel { s.frame sel with data := v } with
        responses := ⟨.ok, 0, 0⟩ :: s.responses })

/-! ## 20-byte packets -/

/-- 42_command_packets.md R180, R181: the configuration packet is built into `TXBUF`; an illegal `BAUD` is `IllegalCommand`. -/
def Obligations.BuildConfigBuildsThePacket : Prop :=
  (∀ b m, encode (.buildConfig b m) = .command (wordOfFields { op := 0x09, baud := b, mode := m.code })) ∧
  RefusesOtherFields .buildConfig ∧
  ∀ (s : State) (baud : BitVec 4) (mode : OpMode),
    (1 ≤ baud.toNat → baud.toNat ≤ 12 → ∃ v cs, Vector.toList v =
        [0xAA, 0x55, 0x12, baud.setWidth 8, 0x02, 0, 0, 0, 0, 0, 0, 0, 0, mode.code.setWidth 8, 0x01, 0, 0, 0, 0, cs] ∧
      cs = checksum ((v.toList.drop 2).take 17) ∧
      exec (.buildConfig baud mode) s = .next { s with txbuf := v, txlen := 20, responses := ⟨.ok, 20, 0⟩ :: s.responses }) ∧
    (baud.toNat = 0 ∨ 12 < baud.toNat →
      exec (.buildConfig baud mode) s = .next { s with responses := ⟨.illegalCommand, 0, 0⟩ :: s.responses })

/-- 42_command_packets.md R182: the configuration checksum is `0x15 + b + m`, in `0x16..0x24`; for `0x07` and Normal it is
`0x1C`. -/
def Obligations.ConfigChecksumValue : Prop :=
  (∀ (baud : BitVec 4) (mode : OpMode), 1 ≤ baud.toNat → baud.toNat ≤ 12 →
    ∃ cs, (configPacket baud mode)[19]? = some cs ∧ cs.toNat = 0x15 + baud.toNat + mode.code.toNat ∧
      0x16 ≤ cs.toNat ∧ cs.toNat ≤ 0x24) ∧
    (configPacket 0x7 .normal)[19]? = some 0x1C

/-- 42_command_packets.md R183, R184: the status packet, always the same, is built into `TXBUF`. -/
def Obligations.BuildStatusBuildsThePacket : Prop :=
  encode .buildStatus = .command 0xA ∧ RefusesOtherFields .buildStatus ∧
  ∀ s : State, ∃ v, Vector.toList v = [0xAA, 0x55, 0x04, 0, 0, 0, 0, 0, 0, 0, 0, 0, 0, 0, 0, 0, 0, 0, 0, 0x04] ∧
    exec .buildStatus s = .next { s with txbuf := v, txlen := 20, responses := ⟨.ok, 20, 0⟩ :: s.responses }

/-- 42_command_packets.md R186, R188: the validator's four outcomes, none of which changes anything. -/
def Obligations.CheckPktValidatesTheReceiveBuffer : Prop :=
  encode .checkPkt = .command 0x10 ∧ RefusesOtherFields .checkPkt ∧
  ∀ s : State,
    ((s.rxlen.toNat ≠ 20 ∨ s.rxbuf[0] ≠ 0xAA ∨ s.rxbuf[1] ≠ 0x55) →
      exec .checkPkt s = .next { s with responses := ⟨.packetMalformed, 0, 0⟩ :: s.responses }) ∧
    (s.rxlen.toNat = 20 → s.rxbuf[0] = 0xAA → s.rxbuf[1] = 0x55 → s.rxbuf[19] ≠ checksum ((s.rxbuf.toList.drop 2).take 17) →
      exec .checkPkt s = .next { s with responses := ⟨.checksumMismatch, 0, 0⟩ :: s.responses }) ∧
    (s.rxlen.toNat = 20 → s.rxbuf[0] = 0xAA → s.rxbuf[1] = 0x55 → s.rxbuf[19] = checksum ((s.rxbuf.toList.drop 2).take 17) →
      exec .checkPkt s = .next { s with responses := ⟨.ok, s.rxbuf[19].setWidth 32, 0⟩ :: s.responses })

/-! ## Data-frame encoder and decoder -/

/-- 43_data_frame.md R202 with 30_encoding.md R116, R117 and 20_memory.md R82: the bytes of the packet of a legal frame, offset by
offset, for both identifier orders. -/
def Obligations.EncodedPacketLayout : Prop :=
  ∀ (P : Params) (f : FrameReg), f.len.toNat ≤ 8 →
    let p := encodePacket P f
    let w := if f.ide = .extended then 4 else 2
    p.length = 3 + w + f.len.toNat ∧ p[0]? = some 0xAA ∧
      p[1]? = some (0xC0 ||| (f.ide.bit.setWidth 8 <<< 5) ||| (f.rtr.bit.setWidth 8 <<< 4) ||| f.len.setWidth 8) ∧
      (∀ j : Nat, j < w → p[2 + j]? =
        some (match P.idOrder with
          | .le => f.id.extractLsb' (8 * j) 8
          | .be => f.id.extractLsb' (8 * (w - 1 - j)) 8)) ∧
      (∀ j : Fin 8, j.val < f.len.toNat → p[2 + w + j.val]? = some f.data[j]) ∧ p[2 + w + f.len.toNat]? = some 0x55

/-- 43_data_frame.md R200: the selected frame is encoded into `TXBUF`; bytes at offsets at or past the new `TXLEN` keep their
values; `NoFrame` when there is no frame. -/
def Obligations.EncodeFillsTheTransmitBuffer : Prop :=
  (∀ sel, encode (.encodeFrame sel) = .command (wordOfFields { op := 0x0B, sel := sel.bit })) ∧
  RefusesOtherFields .encodeFrame ∧
  ∀ (s : State) (sel : FrameSel),
    ((s.frame sel).valid = false →
      exec (.encodeFrame sel) s = .next { s with responses := ⟨.noFrame, 0, 0⟩ :: s.responses }) ∧
    ((s.frame sel).valid = true → (s.frame sel).Legal →
      let p := encodePacket Config.params (s.frame sel)
      ∃ t, exec (.encodeFrame sel) s = .next t ∧ t.txBytes = p ∧ 5 ≤ p.length ∧ p.length ≤ 15 ∧
        (∀ i : Fin 20, p.length ≤ i.val → t.txbuf[i] = s.txbuf[i]) ∧
        t = { s with txbuf := t.txbuf, txlen := BitVec.ofNat 5 p.length,
                     responses := ⟨.ok, BitVec.ofNat 32 p.length, 0⟩ :: s.responses })

/-- 43_data_frame.md R204: a byte below `TXLEN` is returned; an index at or past it is `IllegalCommand`. -/
def Obligations.TxRdReturnsTheByte : Prop :=
  (∀ idx, encode (.txRd idx) = .command (idx.setWidth 128 <<< 18 ||| 0x0C)) ∧
  RefusesOtherFields .txRd ∧
  ∀ (s : State) (idx : BitVec 5),
    (s.txlen.toNat ≤ idx.toNat → exec (.txRd idx) s = .next { s with responses := ⟨.illegalCommand, 0, 0⟩ :: s.responses }) ∧
    ∀ h : idx.toNat < 20, idx.toNat < s.txlen.toNat →
      exec (.txRd idx) s = .next { s with responses := ⟨.ok, (s.txbuf[idx.toNat]).setWidth 32, 0⟩ :: s.responses }

/-- 43_data_frame.md R206, R208: `RX_CLR` empties the receive buffer, its bytes staying; `RX_APPEND` writes the byte at offset
`RXLEN` and no other, and fails `BufferOverflow` on a full buffer. -/
def Obligations.ReceiveBufferCommands : Prop :=
  encode .rxClr = .command 0xD ∧ (∀ b, encode (.rxAppend b) = .command (b.setWidth 128 <<< 24 ||| 0x0E)) ∧
  RefusesOtherFields .rxClr ∧ RefusesOtherFields .rxAppend ∧
  ∀ (s : State) (b : Byte),
    exec .rxClr s = .next { s with rxlen := 0, responses := ⟨.ok, 0, 0⟩ :: s.responses } ∧
    (s.rxlen.toNat = 20 → exec (.rxAppend b) s = .next { s with responses := ⟨.bufferOverflow, 0, 0⟩ :: s.responses }) ∧
    (s.rxlen.toNat < 20 → ∃ v : Vector Byte 20, (∀ i : Fin 20, v[i] = if i.val = s.rxlen.toNat then b else s.rxbuf[i]) ∧
      exec (.rxAppend b) s = .next { s with
        rxbuf := v, rxlen := BitVec.ofNat 5 (s.rxlen.toNat + 1),
        responses := ⟨.ok, BitVec.ofNat 32 (s.rxlen.toNat + 1), 0⟩ :: s.responses })

/-- 43_data_frame.md R212: a byte sequence decodes to `MalformedFrame` exactly when it is not well framed; a well-framed one
decodes to `IdentifierOutOfRange` exactly when its identifier is above its kind's mask, and otherwise to the frame its bytes give,
with a zero tail, and the length consumed. -/
def Obligations.DecodingAByteSequence : Prop :=
  ∀ (P : Params) (bs : List Byte),
    (¬ WellFramed P bs → decodePacketFrame P bs = .error .malformedFrame) ∧
    (WellFramed P bs →
      let c := bs.getD 1 0
      let k := IdKind.ofBit (c.extractLsb' 5 1)
      let w := if k = .extended then 4 else 2
      let n := (c.extractLsb' 0 4).toNat
      let id := idValue P.idOrder ((bs.drop 2).take w)
      (idMask k < id → decodePacketFrame P bs = .error .identifierOutOfRange) ∧
      (id ≤ idMask k → ∃ v : Vector Byte 8,
        (∀ j : Fin 8, v[j] = if j.val < n then bs.getD (2 + w + j.val) 0 else 0) ∧
        decodePacketFrame P bs = .ok
          ({ valid := true, id := id, ide := k, rtr := .ofBit (c.extractLsb' 4 1), len := c.extractLsb' 0 4, data := v },
            3 + w + n)))

/-- 43_data_frame.md R210: `DECODE` puts the decoded frame into `RXF`, or returns the error and leaves `RXF`; the receive buffer
stays. -/
def Obligations.DecodeFillsTheReceiveFrame : Prop :=
  encode .decodeFrame = .command 0xF ∧ RefusesOtherFields .decodeFrame ∧
  ∀ s : State,
    (∀ f n, decodePacketFrame Config.params s.rxBytes = .ok (f, n) → f.valid = true ∧ 5 ≤ n ∧ n ≤ 15 ∧
      exec .decodeFrame s = .next { s with rxf := f, responses := ⟨.ok, BitVec.ofNat 32 n, 0⟩ :: s.responses }) ∧
    (∀ e, decodePacketFrame Config.params s.rxBytes = .error e → (e = .malformedFrame ∨ e = .identifierOutOfRange) ∧
      exec .decodeFrame s = .next { s with responses := ⟨e, 0, 0⟩ :: s.responses })

/-- 43_data_frame.md R214, for every value of the parameters: decoding the packet of a frame gives the frame back, with its
payload bytes up to its length and zeros behind, which is the frame itself exactly when its tail is zero. -/
def Obligations.DecodeOfEncodedFrameIsTheFrame : Prop :=
  ∀ (P : Params) (f : FrameReg), f.valid = true → f.Legal → ∃ v : Vector Byte 8,
    decodePacketFrame P (encodePacket P f) = .ok ({ f with data := v }, (encodePacket P f).length) ∧
      (∀ j : Fin 8, j.val < f.len.toNat → v[j] = f.data[j]) ∧ (v = f.data ↔ f.TailZero)

/-- 10_state.md R43, 43_data_frame.md R216: `DECODE` and `CHECK_PKT` read no byte of the receive buffer at or past `RXLEN`. -/
def Obligations.ReceiveBytesPastTheLengthAreNotRead : Prop :=
  ∀ (s : State) (v : Vector Byte 20), s.RxLegal → (∀ i : Fin 20, i.val < s.rxlen.toNat → v[i] = s.rxbuf[i]) →
    (∃ f rs, exec .decodeFrame s = .next { s with rxf := f, responses := rs } ∧
      exec .decodeFrame { s with rxbuf := v } = .next { s with rxbuf := v, rxf := f, responses := rs }) ∧
    ∃ rs, exec .checkPkt s = .next { s with responses := rs } ∧
      exec .checkPkt { s with rxbuf := v } = .next { s with rxbuf := v, responses := rs }

/-! ## Deframer -/

/-- 43_data_frame.md R220, HUNT: a start marker begins a packet, any other byte is dropped; both are `InProgress`. -/
def Obligations.PushWhileHunting : Prop :=
  ∀ s : State, s.dfState = .hunt → s.dfN = 0 →
    (∃ v : Vector Byte 15, (∀ i : Fin 15, v[i] = if i.val = 0 then 0xAA else s.dfBuf[i]) ∧
      exec (.rxPush 0xAA) s = .next { s with
        dfState := .ctrl, dfN := 1, dfBuf := v, responses := ⟨.inProgress, 0x11, 0⟩ :: s.responses }) ∧
    ∀ b : Byte, b ≠ 0xAA → exec (.rxPush b) s = .next { s with responses := ⟨.inProgress, 0, 0⟩ :: s.responses }

/-- 43_data_frame.md R220, CTRL, with this hardware's marker check: an accepted control byte sets the expected length; a refused
one is `MalformedFrame`, and begins a packet if it is a start marker. -/
def Obligations.PushControlByte : Prop :=
  ∀ (s : State) (b : Byte), s.dfState = .ctrl →
    (b.extractLsb' 6 2 = 3 → (b.extractLsb' 0 4).toNat ≤ 8 → ∃ v : Vector Byte 15,
      (∀ i : Fin 15, v[i] = if i.val = 1 then b else s.dfBuf[i]) ∧
      exec (.rxPush b) s = .next { s with
        dfState := .body, dfN := 2, dfBuf := v,
        dfExp := BitVec.ofNat 4 (3 + (if b.extractLsb' 5 1 = 1 then 4 else 2) + (b.extractLsb' 0 4).toNat),
        responses := ⟨.inProgress, 0x22, 0⟩ :: s.responses }) ∧
    ((b.extractLsb' 6 2 ≠ 3 ∨ 8 < (b.extractLsb' 0 4).toNat) → b ≠ 0xAA →
      exec (.rxPush b) s = .next { s with
        dfState := .hunt, dfN := 0, responses := ⟨.malformedFrame, 0, 0⟩ :: s.responses }) ∧
    (b = 0xAA → ∃ v : Vector Byte 15, (∀ i : Fin 15, v[i] = if i.val = 0 then 0xAA else s.dfBuf[i]) ∧
      exec (.rxPush b) s = .next { s with
        dfState := .ctrl, dfN := 1, dfBuf := v, responses := ⟨.malformedFrame, 0, 0⟩ :: s.responses })

/-- 43_data_frame.md R220, BODY, in the states the deframer reaches (10_state.md R45): the byte is collected while the packet is
incomplete; a last byte that is no end marker is `MalformedFrame`, and begins a packet if it is a start marker; a complete packet
gives its frame or `IdentifierOutOfRange`, and never anything else. -/
def Obligations.PushBodyByte : Prop :=
  ∀ (s : State) (b : Byte), s.dfState = .body → s.DeframerLegal Config.params → ∃ v : Vector Byte 15,
    (∀ i : Fin 15, v[i] = if i.val = s.dfN.toNat then b else s.dfBuf[i]) ∧
    (s.dfN.toNat + 1 < s.dfExp.toNat →
      exec (.rxPush b) s = .next { s with
        dfBuf := v, dfN := s.dfN + 1,
        responses := ⟨.inProgress, 0x20 + BitVec.ofNat 32 (s.dfN.toNat + 1), 0⟩ :: s.responses }) ∧
    (s.dfN.toNat + 1 = s.dfExp.toNat → b ≠ 0x55 → b ≠ 0xAA →
      exec (.rxPush b) s = .next { s with
        dfState := .hunt, dfN := 0, dfBuf := v, responses := ⟨.malformedFrame, 0, 0⟩ :: s.responses }) ∧
    (s.dfN.toNat + 1 = s.dfExp.toNat → b = 0xAA →
      exec (.rxPush b) s = .next { s with
        dfState := .ctrl, dfN := 1, dfBuf := v.set 0 0xAA, responses := ⟨.malformedFrame, 0, 0⟩ :: s.responses }) ∧
    (s.dfN.toNat + 1 = s.dfExp.toNat → b = 0x55 →
      (∃ f, decodePacketFrame Config.params (v.toList.take s.dfExp.toNat) = .ok (f, s.dfExp.toNat) ∧ f.valid = true ∧
        exec (.rxPush b) s = .next { s with
          dfState := .hunt, dfN := 0, dfBuf := v, rxf := f,
          responses := ⟨.ok, s.dfExp.setWidth 32, 0⟩ :: s.responses }) ∨
      (decodePacketFrame Config.params (v.toList.take s.dfExp.toNat) = .error .identifierOutOfRange ∧
        exec (.rxPush b) s = .next { s with
          dfState := .hunt, dfN := 0, dfBuf := v, responses := ⟨.identifierOutOfRange, 0, 0⟩ :: s.responses }))

/-- 43_data_frame.md R222: the packet of every legal frame, pushed byte by byte into a hunting deframer, is answered `InProgress`
on every byte but the last, then `OK` with its length, and `RXF` is the decoded frame of R214; the deframer hunts again. -/
def Obligations.DeframerReceivesEncodedPackets : Prop :=
  ∀ (f : FrameReg) (s : State), f.valid = true → f.Legal → s.dfState = .hunt → s.dfN = 0 →
    let p := encodePacket Config.params f
    ∃ t g ps, execAll (p.map Instr.rxPush) s = .next t ∧ decodePacketFrame Config.params p = .ok (g, p.length) ∧
      t.responses = ⟨.ok, BitVec.ofNat 32 p.length, 0⟩ :: (ps ++ s.responses) ∧ ps.length = p.length - 1 ∧
      (∀ r ∈ ps, r.res = .inProgress) ∧
      t = { s with rxf := g, dfBuf := t.dfBuf, dfExp := t.dfExp, responses := t.responses }

/-! ## Session -/

/-- 44_session.md R240: `OPEN` in its outcomes: `NotReady` outside Closed; the transport cannot be opened; the configuration write
fails or is partial; success; and the line settings it asks for. -/
def Obligations.OpenOpensAndConfigures : Prop :=
  (∀ b m, encode (.openSession b m) = .command (wordOfFields { op := 0x12, baud := b, mode := m.code })) ∧
  RefusesOtherFields .openSession ∧
  Config.lineSettings = { baud := 2000000, dataBits := 8, stopBits := 1, parity := false, flowControl := false } ∧
  ∀ (s : State) (baud : BitVec 4) (mode : OpMode),
    ((baud.toNat = 0 ∨ 12 < baud.toNat) →
      exec (.openSession baud mode) s = .next { s with responses := ⟨.illegalCommand, 0, 0⟩ :: s.responses }) ∧
    (1 ≤ baud.toNat → baud.toNat ≤ 12 →
      (s.sessState ≠ .closed →
        exec (.openSession baud mode) s = .next { s with responses := ⟨.notReady, 0, 0⟩ :: s.responses }) ∧
      (s.sessState = .closed → s.draw.err = true → ∃ t, exec (.openSession baud mode) s = .next t ∧
        t = { s with
          answers := s.afterDraw.answers, draws := s.afterDraw.draws,
          calls := .tOpen Config.path Config.lineSettings false :: s.calls,
          responses := ⟨.transportUnavailable, 0, 0⟩ :: s.responses }) ∧
      (s.sessState = .closed → s.draw.err = false → ∃ t a, exec (.openSession baud mode) s = .next t ∧
        t.txbuf.toList = configPacket baud mode ∧
        a = (if s.afterDraw.draw.err then none else some (min s.afterDraw.draw.count 20)) ∧
        (a = some 20 → t = { s with
          answers := s.afterDraw.afterDraw.answers, draws := s.afterDraw.afterDraw.draws, txbuf := t.txbuf, txlen := 20,
          sessState := .ready, tportOpen := true, rxErr := 0, txErr := 0, statusFlags := 0,
          calls := .tWrite (configPacket baud mode) (some 20) :: .tOpen Config.path Config.lineSettings true :: s.calls,
          responses := ⟨.ok, 20, 0⟩ :: s.responses }) ∧
        (a ≠ some 20 → t = { s with
          answers := s.afterDraw.afterDraw.answers, draws := s.afterDraw.afterDraw.draws, txbuf := t.txbuf, txlen := 20,
          sessState := .closed, tportOpen := false, rxErr := 0, txErr := 0, statusFlags := 0,
          calls := .tClose :: .tWrite (configPacket baud mode) a :: .tOpen Config.path Config.lineSettings true :: s.calls,
          responses := ⟨.transportUnavailable, 0, 0⟩ :: s.responses })))

/-- 44_session.md R244: `SEND` in its outcomes: `NotReady`, `NoFrame`, `TransportWriteError` with the packet in `TXBUF`, and the
count the transport reported, whole or partial, with the length. -/
def Obligations.SendWritesTheFrame : Prop :=
  (∀ sel, encode (.send sel) = .command (wordOfFields { op := 0x13, sel := sel.bit })) ∧
  RefusesOtherFields .send ∧
  ∀ (s : State) (sel : FrameSel),
    (s.sessState ≠ .ready → exec (.send sel) s = .next { s with responses := ⟨.notReady, 0, 0⟩ :: s.responses }) ∧
    (s.sessState = .ready → (s.frame sel).valid = false →
      exec (.send sel) s = .next { s with responses := ⟨.noFrame, 0, 0⟩ :: s.responses }) ∧
    (s.sessState = .ready → (s.frame sel).valid = true → (s.frame sel).Legal →
      let p := encodePacket Config.params (s.frame sel)
      ∃ t, exec (.send sel) s = .next t ∧ t.txBytes = p ∧ (∀ i : Fin 20, p.length ≤ i.val → t.txbuf[i] = s.txbuf[i]) ∧
        (s.draw.err = true → t = { s with
          answers := s.afterDraw.answers, draws := s.afterDraw.draws, txbuf := t.txbuf, txlen := BitVec.ofNat 5 p.length,
          calls := .tWrite p none :: s.calls, responses := ⟨.transportWriteError, 0, 0⟩ :: s.responses }) ∧
        (s.draw.err = false → t = { s with
          answers := s.afterDraw.answers, draws := s.afterDraw.draws, txbuf := t.txbuf, txlen := BitVec.ofNat 5 p.length,
          calls := .tWrite p (some (min s.draw.count p.length)) :: s.calls,
          responses := ⟨.ok, BitVec.ofNat 32 (2 ^ 8 * p.length + min s.draw.count p.length), 0⟩ :: s.responses }))

/-- 44_session.md R250: where `POLL_STATUS` fails: `NotReady`; the query write fails or is partial, and nothing is read; the read
fails, times out or is short, or the response is rejected: the counters, the flags and the session stay in every case. -/
def Obligations.PollFailuresKeepTheCounters : Prop :=
  encode .pollStatus = .command 0x14 ∧ RefusesOtherFields .pollStatus ∧
  ∀ s : State,
    (s.sessState ≠ .ready → exec .pollStatus s = .next { s with responses := ⟨.notReady, 0, 0⟩ :: s.responses }) ∧
    (s.sessState = .ready → s.draw.err = true → ∃ t, exec .pollStatus s = .next t ∧ t.txbuf.toList = statusPacket ∧
      t = { s with
        answers := s.afterDraw.answers, draws := s.afterDraw.draws, txbuf := t.txbuf, txlen := 20,
        calls := .tWrite statusPacket none :: s.calls, responses := ⟨.transportWriteError, 0, 0⟩ :: s.responses }) ∧
    (s.sessState = .ready → s.draw.err = false → s.draw.count < 20 → ∃ t, exec .pollStatus s = .next t ∧
      t.txbuf.toList = statusPacket ∧
      t = { s with
        answers := s.afterDraw.answers, draws := s.afterDraw.draws, txbuf := t.txbuf, txlen := 20,
        calls := .tWrite statusPacket (some s.draw.count) :: s.calls,
        responses := ⟨.statusUnavailable, 0, 0⟩ :: s.responses }) ∧
    (s.sessState = .ready → s.draw.err = false → 20 ≤ s.draw.count → s.afterDraw.draw.err = true →
      ∃ t, exec .pollStatus s = .next t ∧ t.txbuf.toList = statusPacket ∧
        t = { s with
          answers := s.afterDraw.afterDraw.answers, draws := s.afterDraw.afterDraw.draws, unread := t.unread,
          txbuf := t.txbuf, txlen := 20, calls := .tRead 20 none :: .tWrite statusPacket (some 20) :: s.calls,
          responses := ⟨.statusUnavailable, 0, 0⟩ :: s.responses }) ∧
    (∀ d, s.sessState = .ready → s.draw.err = false → 20 ≤ s.draw.count → s.afterDraw.readAnswer 20 = some d →
      (d.length < 20 ∨ d[0]? ≠ some 0xAA ∨ d[1]? ≠ some 0x55 ∨ d[19]? ≠ some (checksum ((d.drop 2).take 17))) →
      ∃ t, exec .pollStatus s = .next t ∧ t.txbuf.toList = statusPacket ∧ t.rxBytes = d ∧
        t = { s with
          answers := s.afterDraw.afterDraw.answers, draws := s.afterDraw.afterDraw.draws, unread := t.unread,
          txbuf := t.txbuf, txlen := 20, rxbuf := t.rxbuf, rxlen := BitVec.ofNat 5 d.length,
          calls := .tRead 20 (some d) :: .tWrite statusPacket (some 20) :: s.calls,
          responses := ⟨.statusUnavailable, 0, 0⟩ :: s.responses })

/-- 44_session.md R250, R252, 42_command_packets.md R190, for this hardware's `SAT_ACCUMULATE`: a valid response is kept in `RXBUF`
and updates the counters and the flags from its bytes at the parameters' offsets; the state view is returned. -/
def Obligations.PollTakesAValidResponse : Prop :=
  ∀ (s : State) (d : List Byte), s.sessState = .ready → s.draw.err = false → 20 ≤ s.draw.count →
    s.afterDraw.readAnswer 20 = some d → d.length = 20 → d[0]? = some 0xAA → d[1]? = some 0x55 →
    d[19]? = some (checksum ((d.drop 2).take 17)) →
    ∃ t, exec .pollStatus s = .next t ∧ t.txbuf.toList = statusPacket ∧ t.rxbuf.toList = d ∧
      t.rxErr.toNat = min (s.rxErr.toNat + (d.getD Config.params.rxErrOff 0).toNat) 255 ∧
      t.txErr.toNat = min (s.txErr.toNat + (d.getD Config.params.txErrOff 0).toNat) 255 ∧
      t.statusFlags = d.getD Config.params.flagsOff 0 ∧
      t = { s with
        answers := s.afterDraw.afterDraw.answers, draws := s.afterDraw.afterDraw.draws, unread := t.unread,
        txbuf := t.txbuf, txlen := 20, rxbuf := t.rxbuf, rxlen := 20, rxErr := t.rxErr, txErr := t.txErr,
        statusFlags := t.statusFlags, calls := .tRead 20 (some d) :: .tWrite statusPacket (some 20) :: s.calls,
        responses := ⟨.ok, t.stateView, 0⟩ :: s.responses }

/-- 44_session.md R252: `update_counters`, for both values of `P_CNT_UPDATE`; a saturated counter stays. -/
def Obligations.CounterUpdate : Prop :=
  (∀ old rx : BitVec 8, (updateCounter .satAccumulate old rx).toNat = min (old.toNat + rx.toNat) 255) ∧
    (∀ old rx : BitVec 8, updateCounter .assign old rx = rx) ∧
    (∀ rx : BitVec 8, updateCounter .satAccumulate 255 rx = 255) ∧ Config.params.cntUpdate = .satAccumulate

/-- 44_session.md R256: `CLOSE` releases an open transport, keeps the counters, and closing twice leaves what closing once
leaves. -/
def Obligations.CloseReleasesTheTransport : Prop :=
  encode .close = .command 0x15 ∧ RefusesOtherFields .close ∧
  ∀ s : State,
    (s.tportOpen = true → exec .close s = .next { s with
      sessState := .closed, tportOpen := false, calls := .tClose :: s.calls, responses := ⟨.ok, 0, 0⟩ :: s.responses }) ∧
    (s.tportOpen = false → exec .close s = .next { s with sessState := .closed, responses := ⟨.ok, 0, 0⟩ :: s.responses }) ∧
    ∃ t, exec .close s = .next t ∧ exec .close t = .next { t with responses := ⟨.ok, 0, 0⟩ :: t.responses }

/-- 44_session.md R258, 10_state.md R50, R54: the layout `RD_STATE` returns, with the codes of `SESS_STATE`; after reset the value
is 0, after a successful `OPEN` it is 6. -/
def Obligations.RdStateReturnsTheView : Prop :=
  encode .rdState = .command 0x16 ∧ RefusesOtherFields .rdState ∧
  (∀ s : State, ∃ v : BitVec 32, exec .rdState s = .next { s with responses := ⟨.ok, v, 0⟩ :: s.responses } ∧
    v.extractLsb' 0 2 = (match s.sessState with | .closed => 0 | .configuring => 1 | .ready => 2) ∧
    v.extractLsb' 2 1 = (if s.tportOpen then 1 else 0) ∧ v.extractLsb' 3 5 = 0 ∧
    v.extractLsb' 8 8 = s.rxErr ∧ v.extractLsb' 16 8 = s.txErr ∧ v.extractLsb' 24 8 = s.statusFlags) ∧
  exec .rdState State.reset = .next { State.reset with responses := [⟨.ok, 0, 0⟩] } ∧
  ∀ (b : BitVec 4) (m : OpMode) (s t : State) (v : BitVec 32) (d : BitVec 64), exec (.openSession b m) s = .next t →
    t.lastResponse = some ⟨.ok, v, d⟩ → exec .rdState t = .next { t with responses := ⟨.ok, 6, 0⟩ :: t.responses }

/-- 44_session.md R260: the session state machine between commands; and every command but those of the session works in every
session state, with the same effect. -/
def Obligations.SessionStateMachine : Prop :=
  (∀ (i : Instr) (s t : State), exec i s = .next t →
    ((∀ b m, i ≠ .openSession b m) → i ≠ .close → t.sessState = s.sessState) ∧
    (i = .close → t.lastResponse = some ⟨.ok, 0, 0⟩ ∧ t.sessState = .closed) ∧
    (∀ b m, i = .openSession b m → s.sessState = .closed → ∃ r, t.lastResponse = some r ∧
      (r.res = .ok → t.sessState = .ready) ∧ (r.res ≠ .ok → t.sessState = .closed)) ∧
    (∀ b m, i = .openSession b m → s.sessState = .ready → ∃ r, t.lastResponse = some r ∧
      r.res ∈ [ResultCode.notReady, .illegalCommand] ∧ t.sessState = .ready) ∧
    (∀ sel, (i = .send sel ∨ i = .pollStatus) → s.sessState = .closed → t.lastResponse = some ⟨.notReady, 0, 0⟩)) ∧
  ∀ (i : Instr) (s t : State) (x : SessState) (o : Bool), exec i s = .next t →
    (∀ b m, i ≠ .openSession b m) → (∀ sel, i ≠ .send sel) → i ≠ .pollStatus → i ≠ .close → i ≠ .rdState →
    exec i { s with sessState := x, tportOpen := o } = .next { t with sessState := x, tportOpen := o }

/-! ## Wire packets and parameters -/

/-- 20_memory.md R90, R92, 60_exceptions.md R278: a wire packet that arrives joins the unread bytes of the transport, and nothing of
the block changes; no response is given. That a table row of this format means its arrival is the model's choice (log entry 5). -/
def Obligations.WirePacketsArriveUnread : Prop :=
  ∀ s : State,
    (∀ b m cs, exec (.wireConfig b m cs) s = .next { s with unread := s.unread ++
      [0xAA, 0x55, 0x12, b, 0x02, 0, 0, 0, 0, 0, 0, 0, 0, m.code.setWidth 8, 0x01, 0, 0, 0, 0, cs] }) ∧
    exec .wireStatus s = .next { s with unread := s.unread ++
      [0xAA, 0x55, 0x04, 0, 0, 0, 0, 0, 0, 0, 0, 0, 0, 0, 0, 0, 0, 0, 0, 0x04] } ∧
    (∀ body cs, exec (.wireStatusResponse body cs) s =
      .next { s with unread := s.unread ++ ([0xAA, 0x55] ++ body.toList ++ [cs]) }) ∧
    ∀ (n : BitVec 4) (p : List Byte) (e : Byte),
      (∀ id, exec (.wireDataStdData n id p e) s = .next { s with unread := s.unread ++
        ([0xAA, 0xC0 ||| n.setWidth 8] ++ id.toList ++ p ++ [e]) }) ∧
      (∀ id, exec (.wireDataStdRemote n id p e) s = .next { s with unread := s.unread ++
        ([0xAA, 0xD0 ||| n.setWidth 8] ++ id.toList ++ p ++ [e]) }) ∧
      (∀ id, exec (.wireDataExtData n id p e) s = .next { s with unread := s.unread ++
        ([0xAA, 0xE0 ||| n.setWidth 8] ++ id.toList ++ p ++ [e]) }) ∧
      ∀ id, exec (.wireDataExtRemote n id p e) s = .next { s with unread := s.unread ++
        ([0xAA, 0xF0 ||| n.setWidth 8] ++ id.toList ++ p ++ [e]) }

/-- 30_encoding.md R115, 44_session.md R250: a status response with a right checksum that arrives, and that the transport then
delivers whole, is taken by the next `POLL_STATUS`: the flags are its byte at the parameter's offset. Rests on log entries 4 and
5. -/
def Obligations.ArrivedStatusResponseIsPolled : Prop :=
  ∀ (s : State) (body : Vector Byte 17) (cs : Byte) (w r : Draw) (ds : List Draw),
    s.sessState = .ready → s.unread = [] → s.answers = w :: r :: ds → w.err = false → 20 ≤ w.count →
    r.err = false → 20 ≤ r.count → r.lost = 0 → WellFormed (.wireStatusResponse body cs) = true →
    ∃ t, execAll [.wireStatusResponse body cs, .pollStatus] s = .next t ∧
      t.statusFlags = body.toList.getD (Config.params.flagsOff - 2) 0 ∧
      t.lastResponse = some ⟨.ok, t.stateView, 0⟩ ∧ t.unread = r.arrived ∧ t.answers = ds

/-- 00_scope.md R9: the response offsets are in 3..18 and pairwise distinct; the model fixes nothing more: every legal choice of
them is one its free values can make (log entry 2). -/
def Obligations.ResponseOffsetsAreLegalAndFree : Prop :=
  Config.params.OffsetsLegal ∧
    ∀ x y z : Nat, (3 ≤ x ∧ x ≤ 18) → (3 ≤ y ∧ y ≤ 18) → (3 ≤ z ∧ z ≤ 18) → x ≠ y → x ≠ z → y ≠ z →
      ∃ a b c, Config.pick a = x ∧ Config.pickOther b x = y ∧ Config.pickThird c x y = z

/-- 60_exceptions.md R290, 00_scope.md R15: every answer the transport may give is one some state holds, and no other: `OK` or
`ERR` to `T_open`, a count in `0..len` or `ERR` to `T_write`, at most `n` bytes or `ERR` to `T_read`; and the bytes read are the
oldest unread ones unless they are lost (20_memory.md R92). -/
def Obligations.TransportAnswersAreAllAndOnlyTheLegalOnes : Prop :=
  (∀ (s : State) (ok : Bool), ∃ d, { s with answers := d :: s.answers }.openAnswer = ok) ∧
    (∀ (s : State) (p : List Byte) (n : Nat), s.writeAnswer p = some n → n ≤ p.length) ∧
    (∀ (s : State) (n : Nat) (d : List Byte), s.readAnswer n = some d → d.length ≤ n) ∧
    (∀ (s : State) (p : List Byte) (a : Option Nat), (∀ n, a = some n → n ≤ p.length) →
      ∃ d, { s with answers := d :: s.answers }.writeAnswer p = a) ∧
    (∀ (s : State) (n : Nat) (a : Option (List Byte)), (∀ d, a = some d → d.length ≤ n) →
      ∃ d, { s with answers := d :: s.answers }.readAnswer n = a) ∧
    ∀ (s : State) (n : Nat) (d : List Byte), s.draw.lost = 0 → s.readAnswer n = some d →
      d = (s.unread ++ s.draw.arrived).take d.length ∧ (s.afterRead n).unread = (s.unread ++ s.draw.arrived).drop d.length
end

