-- ==== Sys2Proof/Laws/State.lean ====
section
/-! SUPPORT. What each named update of the state does to each field: no proof need unfold an update. -/

namespace Sys2Proof.Machine

/-- `afterDraw` touches the answers and the counter of free values alone. -/
theorem State.afterDraw_eq (s : State) :
    s.afterDraw = { s with answers := s.afterDraw.answers, draws := s.afterDraw.draws } := by
  unfold State.afterDraw; split <;> rfl

/-! ### `State.afterDraw` -/

@[simp] theorem State.afterDraw_txf (s : State) : (s.afterDraw).txf = s.txf := by unfold State.afterDraw; split <;> rfl
@[simp] theorem State.afterDraw_rxf (s : State) : (s.afterDraw).rxf = s.rxf := by unfold State.afterDraw; split <;> rfl
@[simp] theorem State.afterDraw_csumAcc (s : State) : (s.afterDraw).csumAcc = s.csumAcc := by unfold State.afterDraw; split <;> rfl
@[simp] theorem State.afterDraw_txbuf (s : State) : (s.afterDraw).txbuf = s.txbuf := by unfold State.afterDraw; split <;> rfl
@[simp] theorem State.afterDraw_txlen (s : State) : (s.afterDraw).txlen = s.txlen := by unfold State.afterDraw; split <;> rfl
@[simp] theorem State.afterDraw_rxbuf (s : State) : (s.afterDraw).rxbuf = s.rxbuf := by unfold State.afterDraw; split <;> rfl
@[simp] theorem State.afterDraw_rxlen (s : State) : (s.afterDraw).rxlen = s.rxlen := by unfold State.afterDraw; split <;> rfl
@[simp] theorem State.afterDraw_dfState (s : State) : (s.afterDraw).dfState = s.dfState := by unfold State.afterDraw; split <;> rfl
@[simp] theorem State.afterDraw_dfBuf (s : State) : (s.afterDraw).dfBuf = s.dfBuf := by unfold State.afterDraw; split <;> rfl
@[simp] theorem State.afterDraw_dfN (s : State) : (s.afterDraw).dfN = s.dfN := by unfold State.afterDraw; split <;> rfl
@[simp] theorem State.afterDraw_dfExp (s : State) : (s.afterDraw).dfExp = s.dfExp := by unfold State.afterDraw; split <;> rfl
@[simp] theorem State.afterDraw_sessState (s : State) : (s.afterDraw).sessState = s.sessState := by unfold State.afterDraw; split <;> rfl
@[simp] theorem State.afterDraw_tportOpen (s : State) : (s.afterDraw).tportOpen = s.tportOpen := by unfold State.afterDraw; split <;> rfl
@[simp] theorem State.afterDraw_rxErr (s : State) : (s.afterDraw).rxErr = s.rxErr := by unfold State.afterDraw; split <;> rfl
@[simp] theorem State.afterDraw_txErr (s : State) : (s.afterDraw).txErr = s.txErr := by unfold State.afterDraw; split <;> rfl
@[simp] theorem State.afterDraw_statusFlags (s : State) : (s.afterDraw).statusFlags = s.statusFlags := by unfold State.afterDraw; split <;> rfl
@[simp] theorem State.afterDraw_port (s : State) : (s.afterDraw).port = s.port := by unfold State.afterDraw; split <;> rfl
@[simp] theorem State.afterDraw_unread (s : State) : (s.afterDraw).unread = s.unread := by unfold State.afterDraw; split <;> rfl
@[simp] theorem State.afterDraw_responses (s : State) : (s.afterDraw).responses = s.responses := by unfold State.afterDraw; split <;> rfl
@[simp] theorem State.afterDraw_calls (s : State) : (s.afterDraw).calls = s.calls := by unfold State.afterDraw; split <;> rfl

/-! ### `State.loadTx` -/

@[simp] theorem State.loadTx_txf (s : State) (p : List Byte) : (s.loadTx p).txf = s.txf := rfl
@[simp] theorem State.loadTx_rxf (s : State) (p : List Byte) : (s.loadTx p).rxf = s.rxf := rfl
@[simp] theorem State.loadTx_csumAcc (s : State) (p : List Byte) : (s.loadTx p).csumAcc = s.csumAcc := rfl
@[simp] theorem State.loadTx_txbuf (s : State) (p : List Byte) : (s.loadTx p).txbuf = overlay p s.txbuf := rfl
@[simp] theorem State.loadTx_txlen (s : State) (p : List Byte) : (s.loadTx p).txlen = BitVec.ofNat 5 p.length := rfl
@[simp] theorem State.loadTx_rxbuf (s : State) (p : List Byte) : (s.loadTx p).rxbuf = s.rxbuf := rfl
@[simp] theorem State.loadTx_rxlen (s : State) (p : List Byte) : (s.loadTx p).rxlen = s.rxlen := rfl
@[simp] theorem State.loadTx_dfState (s : State) (p : List Byte) : (s.loadTx p).dfState = s.dfState := rfl
@[simp] theorem State.loadTx_dfBuf (s : State) (p : List Byte) : (s.loadTx p).dfBuf = s.dfBuf := rfl
@[simp] theorem State.loadTx_dfN (s : State) (p : List Byte) : (s.loadTx p).dfN = s.dfN := rfl
@[simp] theorem State.loadTx_dfExp (s : State) (p : List Byte) : (s.loadTx p).dfExp = s.dfExp := rfl
@[simp] theorem State.loadTx_sessState (s : State) (p : List Byte) : (s.loadTx p).sessState = s.sessState := rfl
@[simp] theorem State.loadTx_tportOpen (s : State) (p : List Byte) : (s.loadTx p).tportOpen = s.tportOpen := rfl
@[simp] theorem State.loadTx_rxErr (s : State) (p : List Byte) : (s.loadTx p).rxErr = s.rxErr := rfl
@[simp] theorem State.loadTx_txErr (s : State) (p : List Byte) : (s.loadTx p).txErr = s.txErr := rfl
@[simp] theorem State.loadTx_statusFlags (s : State) (p : List Byte) : (s.loadTx p).statusFlags = s.statusFlags := rfl
@[simp] theorem State.loadTx_port (s : State) (p : List Byte) : (s.loadTx p).port = s.port := rfl
@[simp] theorem State.loadTx_answers (s : State) (p : List Byte) : (s.loadTx p).answers = s.answers := rfl
@[simp] theorem State.loadTx_draws (s : State) (p : List Byte) : (s.loadTx p).draws = s.draws := rfl
@[simp] theorem State.loadTx_unread (s : State) (p : List Byte) : (s.loadTx p).unread = s.unread := rfl
@[simp] theorem State.loadTx_responses (s : State) (p : List Byte) : (s.loadTx p).responses = s.responses := rfl
@[simp] theorem State.loadTx_calls (s : State) (p : List Byte) : (s.loadTx p).calls = s.calls := rfl

/-! ### `State.loadRx` -/

@[simp] theorem State.loadRx_txf (s : State) (p : List Byte) : (s.loadRx p).txf = s.txf := rfl
@[simp] theorem State.loadRx_rxf (s : State) (p : List Byte) : (s.loadRx p).rxf = s.rxf := rfl
@[simp] theorem State.loadRx_csumAcc (s : State) (p : List Byte) : (s.loadRx p).csumAcc = s.csumAcc := rfl
@[simp] theorem State.loadRx_txbuf (s : State) (p : List Byte) : (s.loadRx p).txbuf = s.txbuf := rfl
@[simp] theorem State.loadRx_txlen (s : State) (p : List Byte) : (s.loadRx p).txlen = s.txlen := rfl
@[simp] theorem State.loadRx_rxbuf (s : State) (p : List Byte) : (s.loadRx p).rxbuf = overlay p s.rxbuf := rfl
@[simp] theorem State.loadRx_rxlen (s : State) (p : List Byte) : (s.loadRx p).rxlen = BitVec.ofNat 5 p.length := rfl
@[simp] theorem State.loadRx_dfState (s : State) (p : List Byte) : (s.loadRx p).dfState = s.dfState := rfl
@[simp] theorem State.loadRx_dfBuf (s : State) (p : List Byte) : (s.loadRx p).dfBuf = s.dfBuf := rfl
@[simp] theorem State.loadRx_dfN (s : State) (p : List Byte) : (s.loadRx p).dfN = s.dfN := rfl
@[simp] theorem State.loadRx_dfExp (s : State) (p : List Byte) : (s.loadRx p).dfExp = s.dfExp := rfl
@[simp] theorem State.loadRx_sessState (s : State) (p : List Byte) : (s.loadRx p).sessState = s.sessState := rfl
@[simp] theorem State.loadRx_tportOpen (s : State) (p : List Byte) : (s.loadRx p).tportOpen = s.tportOpen := rfl
@[simp] theorem State.loadRx_rxErr (s : State) (p : List Byte) : (s.loadRx p).rxErr = s.rxErr := rfl
@[simp] theorem State.loadRx_txErr (s : State) (p : List Byte) : (s.loadRx p).txErr = s.txErr := rfl
@[simp] theorem State.loadRx_statusFlags (s : State) (p : List Byte) : (s.loadRx p).statusFlags = s.statusFlags := rfl
@[simp] theorem State.loadRx_port (s : State) (p : List Byte) : (s.loadRx p).port = s.port := rfl
@[simp] theorem State.loadRx_answers (s : State) (p : List Byte) : (s.loadRx p).answers = s.answers := rfl
@[simp] theorem State.loadRx_draws (s : State) (p : List Byte) : (s.loadRx p).draws = s.draws := rfl
@[simp] theorem State.loadRx_unread (s : State) (p : List Byte) : (s.loadRx p).unread = s.unread := rfl
@[simp] theorem State.loadRx_responses (s : State) (p : List Byte) : (s.loadRx p).responses = s.responses := rfl
@[simp] theorem State.loadRx_calls (s : State) (p : List Byte) : (s.loadRx p).calls = s.calls := rfl

/-! ### `State.arrive` -/

@[simp] theorem State.arrive_txf (s : State) (p : List Byte) : (s.arrive p).txf = s.txf := rfl
@[simp] theorem State.arrive_rxf (s : State) (p : List Byte) : (s.arrive p).rxf = s.rxf := rfl
@[simp] theorem State.arrive_csumAcc (s : State) (p : List Byte) : (s.arrive p).csumAcc = s.csumAcc := rfl
@[simp] theorem State.arrive_txbuf (s : State) (p : List Byte) : (s.arrive p).txbuf = s.txbuf := rfl
@[simp] theorem State.arrive_txlen (s : State) (p : List Byte) : (s.arrive p).txlen = s.txlen := rfl
@[simp] theorem State.arrive_rxbuf (s : State) (p : List Byte) : (s.arrive p).rxbuf = s.rxbuf := rfl
@[simp] theorem State.arrive_rxlen (s : State) (p : List Byte) : (s.arrive p).rxlen = s.rxlen := rfl
@[simp] theorem State.arrive_dfState (s : State) (p : List Byte) : (s.arrive p).dfState = s.dfState := rfl
@[simp] theorem State.arrive_dfBuf (s : State) (p : List Byte) : (s.arrive p).dfBuf = s.dfBuf := rfl
@[simp] theorem State.arrive_dfN (s : State) (p : List Byte) : (s.arrive p).dfN = s.dfN := rfl
@[simp] theorem State.arrive_dfExp (s : State) (p : List Byte) : (s.arrive p).dfExp = s.dfExp := rfl
@[simp] theorem State.arrive_sessState (s : State) (p : List Byte) : (s.arrive p).sessState = s.sessState := rfl
@[simp] theorem State.arrive_tportOpen (s : State) (p : List Byte) : (s.arrive p).tportOpen = s.tportOpen := rfl
@[simp] theorem State.arrive_rxErr (s : State) (p : List Byte) : (s.arrive p).rxErr = s.rxErr := rfl
@[simp] theorem State.arrive_txErr (s : State) (p : List Byte) : (s.arrive p).txErr = s.txErr := rfl
@[simp] theorem State.arrive_statusFlags (s : State) (p : List Byte) : (s.arrive p).statusFlags = s.statusFlags := rfl
@[simp] theorem State.arrive_port (s : State) (p : List Byte) : (s.arrive p).port = s.port := rfl
@[simp] theorem State.arrive_answers (s : State) (p : List Byte) : (s.arrive p).answers = s.answers := rfl
@[simp] theorem State.arrive_draws (s : State) (p : List Byte) : (s.arrive p).draws = s.draws := rfl
@[simp] theorem State.arrive_unread (s : State) (p : List Byte) : (s.arrive p).unread = s.unread ++ p := rfl
@[simp] theorem State.arrive_responses (s : State) (p : List Byte) : (s.arrive p).responses = s.responses := rfl
@[simp] theorem State.arrive_calls (s : State) (p : List Byte) : (s.arrive p).calls = s.calls := rfl

/-! ### `State.afterOpen` -/

@[simp] theorem State.afterOpen_txf (s : State) : (s.afterOpen).txf = s.txf := by simp only [State.afterOpen, State.afterDraw_txf]
@[simp] theorem State.afterOpen_rxf (s : State) : (s.afterOpen).rxf = s.rxf := by simp only [State.afterOpen, State.afterDraw_rxf]
@[simp] theorem State.afterOpen_csumAcc (s : State) : (s.afterOpen).csumAcc = s.csumAcc := by simp only [State.afterOpen, State.afterDraw_csumAcc]
@[simp] theorem State.afterOpen_txbuf (s : State) : (s.afterOpen).txbuf = s.txbuf := by simp only [State.afterOpen, State.afterDraw_txbuf]
@[simp] theorem State.afterOpen_txlen (s : State) : (s.afterOpen).txlen = s.txlen := by simp only [State.afterOpen, State.afterDraw_txlen]
@[simp] theorem State.afterOpen_rxbuf (s : State) : (s.afterOpen).rxbuf = s.rxbuf := by simp only [State.afterOpen, State.afterDraw_rxbuf]
@[simp] theorem State.afterOpen_rxlen (s : State) : (s.afterOpen).rxlen = s.rxlen := by simp only [State.afterOpen, State.afterDraw_rxlen]
@[simp] theorem State.afterOpen_dfState (s : State) : (s.afterOpen).dfState = s.dfState := by simp only [State.afterOpen, State.afterDraw_dfState]
@[simp] theorem State.afterOpen_dfBuf (s : State) : (s.afterOpen).dfBuf = s.dfBuf := by simp only [State.afterOpen, State.afterDraw_dfBuf]
@[simp] theorem State.afterOpen_dfN (s : State) : (s.afterOpen).dfN = s.dfN := by simp only [State.afterOpen, State.afterDraw_dfN]
@[simp] theorem State.afterOpen_dfExp (s : State) : (s.afterOpen).dfExp = s.dfExp := by simp only [State.afterOpen, State.afterDraw_dfExp]
@[simp] theorem State.afterOpen_sessState (s : State) : (s.afterOpen).sessState = s.sessState := by simp only [State.afterOpen, State.afterDraw_sessState]
@[simp] theorem State.afterOpen_tportOpen (s : State) : (s.afterOpen).tportOpen = s.tportOpen := by simp only [State.afterOpen, State.afterDraw_tportOpen]
@[simp] theorem State.afterOpen_rxErr (s : State) : (s.afterOpen).rxErr = s.rxErr := by simp only [State.afterOpen, State.afterDraw_rxErr]
@[simp] theorem State.afterOpen_txErr (s : State) : (s.afterOpen).txErr = s.txErr := by simp only [State.afterOpen, State.afterDraw_txErr]
@[simp] theorem State.afterOpen_statusFlags (s : State) : (s.afterOpen).statusFlags = s.statusFlags := by simp only [State.afterOpen, State.afterDraw_statusFlags]
@[simp] theorem State.afterOpen_port (s : State) : (s.afterOpen).port = s.port := by simp only [State.afterOpen, State.afterDraw_port]
@[simp] theorem State.afterOpen_answers (s : State) : (s.afterOpen).answers = s.afterDraw.answers := by simp only [State.afterOpen]
@[simp] theorem State.afterOpen_draws (s : State) : (s.afterOpen).draws = s.afterDraw.draws := by simp only [State.afterOpen]
@[simp] theorem State.afterOpen_unread (s : State) : (s.afterOpen).unread = s.unread := by simp only [State.afterOpen, State.afterDraw_unread]
@[simp] theorem State.afterOpen_responses (s : State) : (s.afterOpen).responses = s.responses := by simp only [State.afterOpen, State.afterDraw_responses]
@[simp] theorem State.afterOpen_calls (s : State) : (s.afterOpen).calls = .tOpen Config.path Config.lineSettings s.openAnswer :: s.calls := by simp only [State.afterOpen]

/-! ### `State.afterWrite` -/

@[simp] theorem State.afterWrite_txf (s : State) (p : List Byte) : (s.afterWrite p).txf = s.txf := by simp only [State.afterWrite, State.afterDraw_txf]
@[simp] theorem State.afterWrite_rxf (s : State) (p : List Byte) : (s.afterWrite p).rxf = s.rxf := by simp only [State.afterWrite, State.afterDraw_rxf]
@[simp] theorem State.afterWrite_csumAcc (s : State) (p : List Byte) : (s.afterWrite p).csumAcc = s.csumAcc := by simp only [State.afterWrite, State.afterDraw_csumAcc]
@[simp] theorem State.afterWrite_txbuf (s : State) (p : List Byte) : (s.afterWrite p).txbuf = s.txbuf := by simp only [State.afterWrite, State.afterDraw_txbuf]
@[simp] theorem State.afterWrite_txlen (s : State) (p : List Byte) : (s.afterWrite p).txlen = s.txlen := by simp only [State.afterWrite, State.afterDraw_txlen]
@[simp] theorem State.afterWrite_rxbuf (s : State) (p : List Byte) : (s.afterWrite p).rxbuf = s.rxbuf := by simp only [State.afterWrite, State.afterDraw_rxbuf]
@[simp] theorem State.afterWrite_rxlen (s : State) (p : List Byte) : (s.afterWrite p).rxlen = s.rxlen := by simp only [State.afterWrite, State.afterDraw_rxlen]
@[simp] theorem State.afterWrite_dfState (s : State) (p : List Byte) : (s.afterWrite p).dfState = s.dfState := by simp only [State.afterWrite, State.afterDraw_dfState]
@[simp] theorem State.afterWrite_dfBuf (s : State) (p : List Byte) : (s.afterWrite p).dfBuf = s.dfBuf := by simp only [State.afterWrite, State.afterDraw_dfBuf]
@[simp] theorem State.afterWrite_dfN (s : State) (p : List Byte) : (s.afterWrite p).dfN = s.dfN := by simp only [State.afterWrite, State.afterDraw_dfN]
@[simp] theorem State.afterWrite_dfExp (s : State) (p : List Byte) : (s.afterWrite p).dfExp = s.dfExp := by simp only [State.afterWrite, State.afterDraw_dfExp]
@[simp] theorem State.afterWrite_sessState (s : State) (p : List Byte) : (s.afterWrite p).sessState = s.sessState := by simp only [State.afterWrite, State.afterDraw_sessState]
@[simp] theorem State.afterWrite_tportOpen (s : State) (p : List Byte) : (s.afterWrite p).tportOpen = s.tportOpen := by simp only [State.afterWrite, State.afterDraw_tportOpen]
@[simp] theorem State.afterWrite_rxErr (s : State) (p : List Byte) : (s.afterWrite p).rxErr = s.rxErr := by simp only [State.afterWrite, State.afterDraw_rxErr]
@[simp] theorem State.afterWrite_txErr (s : State) (p : List Byte) : (s.afterWrite p).txErr = s.txErr := by simp only [State.afterWrite, State.afterDraw_txErr]
@[simp] theorem State.afterWrite_statusFlags (s : State) (p : List Byte) : (s.afterWrite p).statusFlags = s.statusFlags := by simp only [State.afterWrite, State.afterDraw_statusFlags]
@[simp] theorem State.afterWrite_port (s : State) (p : List Byte) : (s.afterWrite p).port = s.port := by simp only [State.afterWrite, State.afterDraw_port]
@[simp] theorem State.afterWrite_answers (s : State) (p : List Byte) : (s.afterWrite p).answers = s.afterDraw.answers := by simp only [State.afterWrite]
@[simp] theorem State.afterWrite_draws (s : State) (p : List Byte) : (s.afterWrite p).draws = s.afterDraw.draws := by simp only [State.afterWrite]
@[simp] theorem State.afterWrite_unread (s : State) (p : List Byte) : (s.afterWrite p).unread = s.unread := by simp only [State.afterWrite, State.afterDraw_unread]
@[simp] theorem State.afterWrite_responses (s : State) (p : List Byte) : (s.afterWrite p).responses = s.responses := by simp only [State.afterWrite, State.afterDraw_responses]
@[simp] theorem State.afterWrite_calls (s : State) (p : List Byte) : (s.afterWrite p).calls = .tWrite p (s.writeAnswer p) :: s.calls := by simp only [State.afterWrite]

/-! ### `State.afterRead` -/

@[simp] theorem State.afterRead_txf (s : State) (n : Nat) : (s.afterRead n).txf = s.txf := by simp only [State.afterRead, State.afterDraw_txf]
@[simp] theorem State.afterRead_rxf (s : State) (n : Nat) : (s.afterRead n).rxf = s.rxf := by simp only [State.afterRead, State.afterDraw_rxf]
@[simp] theorem State.afterRead_csumAcc (s : State) (n : Nat) : (s.afterRead n).csumAcc = s.csumAcc := by simp only [State.afterRead, State.afterDraw_csumAcc]
@[simp] theorem State.afterRead_txbuf (s : State) (n : Nat) : (s.afterRead n).txbuf = s.txbuf := by simp only [State.afterRead, State.afterDraw_txbuf]
@[simp] theorem State.afterRead_txlen (s : State) (n : Nat) : (s.afterRead n).txlen = s.txlen := by simp only [State.afterRead, State.afterDraw_txlen]
@[simp] theorem State.afterRead_rxbuf (s : State) (n : Nat) : (s.afterRead n).rxbuf = s.rxbuf := by simp only [State.afterRead, State.afterDraw_rxbuf]
@[simp] theorem State.afterRead_rxlen (s : State) (n : Nat) : (s.afterRead n).rxlen = s.rxlen := by simp only [State.afterRead, State.afterDraw_rxlen]
@[simp] theorem State.afterRead_dfState (s : State) (n : Nat) : (s.afterRead n).dfState = s.dfState := by simp only [State.afterRead, State.afterDraw_dfState]
@[simp] theorem State.afterRead_dfBuf (s : State) (n : Nat) : (s.afterRead n).dfBuf = s.dfBuf := by simp only [State.afterRead, State.afterDraw_dfBuf]
@[simp] theorem State.afterRead_dfN (s : State) (n : Nat) : (s.afterRead n).dfN = s.dfN := by simp only [State.afterRead, State.afterDraw_dfN]
@[simp] theorem State.afterRead_dfExp (s : State) (n : Nat) : (s.afterRead n).dfExp = s.dfExp := by simp only [State.afterRead, State.afterDraw_dfExp]
@[simp] theorem State.afterRead_sessState (s : State) (n : Nat) : (s.afterRead n).sessState = s.sessState := by simp only [State.afterRead, State.afterDraw_sessState]
@[simp] theorem State.afterRead_tportOpen (s : State) (n : Nat) : (s.afterRead n).tportOpen = s.tportOpen := by simp only [State.afterRead, State.afterDraw_tportOpen]
@[simp] theorem State.afterRead_rxErr (s : State) (n : Nat) : (s.afterRead n).rxErr = s.rxErr := by simp only [State.afterRead, State.afterDraw_rxErr]
@[simp] theorem State.afterRead_txErr (s : State) (n : Nat) : (s.afterRead n).txErr = s.txErr := by simp only [State.afterRead, State.afterDraw_txErr]
@[simp] theorem State.afterRead_statusFlags (s : State) (n : Nat) : (s.afterRead n).statusFlags = s.statusFlags := by simp only [State.afterRead, State.afterDraw_statusFlags]
@[simp] theorem State.afterRead_port (s : State) (n : Nat) : (s.afterRead n).port = s.port := by simp only [State.afterRead, State.afterDraw_port]
@[simp] theorem State.afterRead_answers (s : State) (n : Nat) : (s.afterRead n).answers = s.afterDraw.answers := by simp only [State.afterRead]
@[simp] theorem State.afterRead_draws (s : State) (n : Nat) : (s.afterRead n).draws = s.afterDraw.draws := by simp only [State.afterRead]
@[simp] theorem State.afterRead_unread (s : State) (n : Nat) : (s.afterRead n).unread = if s.draw.err then s.available else s.available.drop (min s.draw.count n) := by simp only [State.afterRead]
@[simp] theorem State.afterRead_responses (s : State) (n : Nat) : (s.afterRead n).responses = s.responses := by simp only [State.afterRead, State.afterDraw_responses]
@[simp] theorem State.afterRead_calls (s : State) (n : Nat) : (s.afterRead n).calls = .tRead n (s.readAnswer n) :: s.calls := by simp only [State.afterRead]

/-! ### `State.afterClose` -/

@[simp] theorem State.afterClose_txf (s : State) : (s.afterClose).txf = s.txf := rfl
@[simp] theorem State.afterClose_rxf (s : State) : (s.afterClose).rxf = s.rxf := rfl
@[simp] theorem State.afterClose_csumAcc (s : State) : (s.afterClose).csumAcc = s.csumAcc := rfl
@[simp] theorem State.afterClose_txbuf (s : State) : (s.afterClose).txbuf = s.txbuf := rfl
@[simp] theorem State.afterClose_txlen (s : State) : (s.afterClose).txlen = s.txlen := rfl
@[simp] theorem State.afterClose_rxbuf (s : State) : (s.afterClose).rxbuf = s.rxbuf := rfl
@[simp] theorem State.afterClose_rxlen (s : State) : (s.afterClose).rxlen = s.rxlen := rfl
@[simp] theorem State.afterClose_dfState (s : State) : (s.afterClose).dfState = s.dfState := rfl
@[simp] theorem State.afterClose_dfBuf (s : State) : (s.afterClose).dfBuf = s.dfBuf := rfl
@[simp] theorem State.afterClose_dfN (s : State) : (s.afterClose).dfN = s.dfN := rfl
@[simp] theorem State.afterClose_dfExp (s : State) : (s.afterClose).dfExp = s.dfExp := rfl
@[simp] theorem State.afterClose_sessState (s : State) : (s.afterClose).sessState = s.sessState := rfl
@[simp] theorem State.afterClose_tportOpen (s : State) : (s.afterClose).tportOpen = s.tportOpen := rfl
@[simp] theorem State.afterClose_rxErr (s : State) : (s.afterClose).rxErr = s.rxErr := rfl
@[simp] theorem State.afterClose_txErr (s : State) : (s.afterClose).txErr = s.txErr := rfl
@[simp] theorem State.afterClose_statusFlags (s : State) : (s.afterClose).statusFlags = s.statusFlags := rfl
@[simp] theorem State.afterClose_port (s : State) : (s.afterClose).port = s.port := rfl
@[simp] theorem State.afterClose_answers (s : State) : (s.afterClose).answers = s.answers := rfl
@[simp] theorem State.afterClose_draws (s : State) : (s.afterClose).draws = s.draws := rfl
@[simp] theorem State.afterClose_unread (s : State) : (s.afterClose).unread = s.unread := rfl
@[simp] theorem State.afterClose_responses (s : State) : (s.afterClose).responses = s.responses := rfl
@[simp] theorem State.afterClose_calls (s : State) : (s.afterClose).calls = .tClose :: s.calls := rfl

/-! ### `State.startPacket` -/

@[simp] theorem State.startPacket_txf (s : State) (b : Byte) : (s.startPacket b).txf = s.txf := rfl
@[simp] theorem State.startPacket_rxf (s : State) (b : Byte) : (s.startPacket b).rxf = s.rxf := rfl
@[simp] theorem State.startPacket_csumAcc (s : State) (b : Byte) : (s.startPacket b).csumAcc = s.csumAcc := rfl
@[simp] theorem State.startPacket_txbuf (s : State) (b : Byte) : (s.startPacket b).txbuf = s.txbuf := rfl
@[simp] theorem State.startPacket_txlen (s : State) (b : Byte) : (s.startPacket b).txlen = s.txlen := rfl
@[simp] theorem State.startPacket_rxbuf (s : State) (b : Byte) : (s.startPacket b).rxbuf = s.rxbuf := rfl
@[simp] theorem State.startPacket_rxlen (s : State) (b : Byte) : (s.startPacket b).rxlen = s.rxlen := rfl
@[simp] theorem State.startPacket_dfState (s : State) (b : Byte) : (s.startPacket b).dfState = .ctrl := rfl
@[simp] theorem State.startPacket_dfBuf (s : State) (b : Byte) : (s.startPacket b).dfBuf = s.dfBuf.set 0 b := rfl
@[simp] theorem State.startPacket_dfN (s : State) (b : Byte) : (s.startPacket b).dfN = 1 := rfl
@[simp] theorem State.startPacket_dfExp (s : State) (b : Byte) : (s.startPacket b).dfExp = s.dfExp := rfl
@[simp] theorem State.startPacket_sessState (s : State) (b : Byte) : (s.startPacket b).sessState = s.sessState := rfl
@[simp] theorem State.startPacket_tportOpen (s : State) (b : Byte) : (s.startPacket b).tportOpen = s.tportOpen := rfl
@[simp] theorem State.startPacket_rxErr (s : State) (b : Byte) : (s.startPacket b).rxErr = s.rxErr := rfl
@[simp] theorem State.startPacket_txErr (s : State) (b : Byte) : (s.startPacket b).txErr = s.txErr := rfl
@[simp] theorem State.startPacket_statusFlags (s : State) (b : Byte) : (s.startPacket b).statusFlags = s.statusFlags := rfl
@[simp] theorem State.startPacket_port (s : State) (b : Byte) : (s.startPacket b).port = s.port := rfl
@[simp] theorem State.startPacket_answers (s : State) (b : Byte) : (s.startPacket b).answers = s.answers := rfl
@[simp] theorem State.startPacket_draws (s : State) (b : Byte) : (s.startPacket b).draws = s.draws := rfl
@[simp] theorem State.startPacket_unread (s : State) (b : Byte) : (s.startPacket b).unread = s.unread := rfl
@[simp] theorem State.startPacket_responses (s : State) (b : Byte) : (s.startPacket b).responses = s.responses := rfl
@[simp] theorem State.startPacket_calls (s : State) (b : Byte) : (s.startPacket b).calls = s.calls := rfl

/-! ### `State.resetBlock` -/

@[simp] theorem State.resetBlock_csumAcc (s : State) : s.resetBlock.csumAcc = 0 := rfl
@[simp] theorem State.resetBlock_txlen (s : State) : s.resetBlock.txlen = 0 := rfl
@[simp] theorem State.resetBlock_rxlen (s : State) : s.resetBlock.rxlen = 0 := rfl
@[simp] theorem State.resetBlock_dfState (s : State) : s.resetBlock.dfState = .hunt := rfl
@[simp] theorem State.resetBlock_dfN (s : State) : s.resetBlock.dfN = 0 := rfl
@[simp] theorem State.resetBlock_dfExp (s : State) : s.resetBlock.dfExp = 0 := rfl
@[simp] theorem State.resetBlock_sessState (s : State) : s.resetBlock.sessState = .closed := rfl
@[simp] theorem State.resetBlock_tportOpen (s : State) : s.resetBlock.tportOpen = false := rfl
@[simp] theorem State.resetBlock_rxErr (s : State) : s.resetBlock.rxErr = 0 := rfl
@[simp] theorem State.resetBlock_txErr (s : State) : s.resetBlock.txErr = 0 := rfl
@[simp] theorem State.resetBlock_statusFlags (s : State) : s.resetBlock.statusFlags = 0 := rfl
@[simp] theorem State.resetBlock_port (s : State) : s.resetBlock.port = s.port := rfl
@[simp] theorem State.resetBlock_answers (s : State) : s.resetBlock.answers = s.answers := rfl
@[simp] theorem State.resetBlock_draws (s : State) : s.resetBlock.draws = s.draws + 1 := rfl
@[simp] theorem State.resetBlock_unread (s : State) : s.resetBlock.unread = s.unread := rfl
@[simp] theorem State.resetBlock_responses (s : State) : s.resetBlock.responses = s.responses := rfl
@[simp] theorem State.resetBlock_calls (s : State) : s.resetBlock.calls = s.calls := rfl

/-! ### `State.setFrame` -/

@[simp] theorem State.setFrame_txf_sel (s : State) (f : FrameReg) : s.setFrame .txf f = { s with txf := f } := rfl
@[simp] theorem State.setFrame_rxf_sel (s : State) (f : FrameReg) : s.setFrame .rxf f = { s with rxf := f } := rfl
@[simp] theorem State.setFrame_csumAcc (s : State) (sel : FrameSel) (f : FrameReg) : (s.setFrame sel f).csumAcc = s.csumAcc := by cases sel <;> rfl
@[simp] theorem State.setFrame_txbuf (s : State) (sel : FrameSel) (f : FrameReg) : (s.setFrame sel f).txbuf = s.txbuf := by cases sel <;> rfl
@[simp] theorem State.setFrame_txlen (s : State) (sel : FrameSel) (f : FrameReg) : (s.setFrame sel f).txlen = s.txlen := by cases sel <;> rfl
@[simp] theorem State.setFrame_rxbuf (s : State) (sel : FrameSel) (f : FrameReg) : (s.setFrame sel f).rxbuf = s.rxbuf := by cases sel <;> rfl
@[simp] theorem State.setFrame_rxlen (s : State) (sel : FrameSel) (f : FrameReg) : (s.setFrame sel f).rxlen = s.rxlen := by cases sel <;> rfl
@[simp] theorem State.setFrame_dfState (s : State) (sel : FrameSel) (f : FrameReg) : (s.setFrame sel f).dfState = s.dfState := by cases sel <;> rfl
@[simp] theorem State.setFrame_dfBuf (s : State) (sel : FrameSel) (f : FrameReg) : (s.setFrame sel f).dfBuf = s.dfBuf := by cases sel <;> rfl
@[simp] theorem State.setFrame_dfN (s : State) (sel : FrameSel) (f : FrameReg) : (s.setFrame sel f).dfN = s.dfN := by cases sel <;> rfl
@[simp] theorem State.setFrame_dfExp (s : State) (sel : FrameSel) (f : FrameReg) : (s.setFrame sel f).dfExp = s.dfExp := by cases sel <;> rfl
@[simp] theorem State.setFrame_sessState (s : State) (sel : FrameSel) (f : FrameReg) : (s.setFrame sel f).sessState = s.sessState := by cases sel <;> rfl
@[simp] theorem State.setFrame_tportOpen (s : State) (sel : FrameSel) (f : FrameReg) : (s.setFrame sel f).tportOpen = s.tportOpen := by cases sel <;> rfl
@[simp] theorem State.setFrame_rxErr (s : State) (sel : FrameSel) (f : FrameReg) : (s.setFrame sel f).rxErr = s.rxErr := by cases sel <;> rfl
@[simp] theorem State.setFrame_txErr (s : State) (sel : FrameSel) (f : FrameReg) : (s.setFrame sel f).txErr = s.txErr := by cases sel <;> rfl
@[simp] theorem State.setFrame_statusFlags (s : State) (sel : FrameSel) (f : FrameReg) : (s.setFrame sel f).statusFlags = s.statusFlags := by cases sel <;> rfl
@[simp] theorem State.setFrame_port (s : State) (sel : FrameSel) (f : FrameReg) : (s.setFrame sel f).port = s.port := by cases sel <;> rfl
@[simp] theorem State.setFrame_answers (s : State) (sel : FrameSel) (f : FrameReg) : (s.setFrame sel f).answers = s.answers := by cases sel <;> rfl
@[simp] theorem State.setFrame_draws (s : State) (sel : FrameSel) (f : FrameReg) : (s.setFrame sel f).draws = s.draws := by cases sel <;> rfl
@[simp] theorem State.setFrame_unread (s : State) (sel : FrameSel) (f : FrameReg) : (s.setFrame sel f).unread = s.unread := by cases sel <;> rfl
@[simp] theorem State.setFrame_responses (s : State) (sel : FrameSel) (f : FrameReg) : (s.setFrame sel f).responses = s.responses := by cases sel <;> rfl
@[simp] theorem State.setFrame_calls (s : State) (sel : FrameSel) (f : FrameReg) : (s.setFrame sel f).calls = s.calls := by cases sel <;> rfl
theorem State.setFrame_txf (s : State) (sel : FrameSel) (f : FrameReg) :
    (s.setFrame sel f).txf = if sel = .txf then f else s.txf := by cases sel <;> rfl
theorem State.setFrame_rxf (s : State) (sel : FrameSel) (f : FrameReg) :
    (s.setFrame sel f).rxf = if sel = .rxf then f else s.rxf := by cases sel <;> rfl
@[simp] theorem State.frame_txf (s : State) : s.frame .txf = s.txf := rfl
@[simp] theorem State.frame_rxf (s : State) : s.frame .rxf = s.rxf := rfl

end Sys2Proof.Machine
end

