-- ==== Sys2Proof/Laws/Ops.lean ====
section
/-! SUPPORT. One lemma for each shared operation that says what it does: responses, buffers, the transport, the packet functions. -/

namespace Sys2Proof.Machine

/-! ### Responses -/

@[simp] theorem State.respond_eq (s : State) (r : Response) : s.respond r = .next { s with responses := r :: s.responses } := rfl

@[simp] theorem State.succeed_eq (s : State) (v : BitVec 32) (d : BitVec 64) :
    s.succeed v d = .next { s with responses := ⟨.ok, v, d⟩ :: s.responses } := rfl

@[simp] theorem State.raise_eq (s : State) (e : ResultCode) :
    s.raise e = .next { s with responses := ⟨e, 0, 0⟩ :: s.responses } := rfl

theorem withFrame_valid {s : State} {sel : FrameSel} {k : FrameReg → Result} (h : (s.frame sel).valid = true) :
    withFrame s sel k = k (s.frame sel) := by simp [withFrame, h]

theorem withFrame_invalid {s : State} {sel : FrameSel} {k : FrameReg → Result} (h : (s.frame sel).valid = false) :
    withFrame s sel k = s.raise .noFrame := by simp [withFrame, h]

/-! ### Buffers -/

theorem overlayList_getElem? (p bs : List Byte) (i : Nat) :
    (overlayList p bs)[i]? = if i < bs.length then p[i]?.or bs[i]? else none := by
  induction p generalizing bs i with
  | nil => cases bs <;> simp [overlayList]
  | cons b p ih => cases bs <;> cases i <;> simp [overlayList, ih]

theorem overlay_getElem {n : Nat} (p : List Byte) (buf : Vector Byte n) (i : Nat) (h : i < n) :
    (overlay p buf)[i] = p.getD i buf[i] := by
  have hl := overlayList_getElem? p buf.toList i
  rw [if_pos (by simpa using h), List.getElem?_eq_getElem (by simpa [overlayList_length] using h)] at hl
  apply Option.some.inj
  refine Eq.trans hl ?_
  by_cases hp : i < p.length <;> simp [h, hp]

theorem overlay_getElem_written {n : Nat} (p : List Byte) (buf : Vector Byte n) (i : Nat) (h : i < n) (hp : i < p.length) :
    (overlay p buf)[i] = p[i] := by simp [overlay_getElem, hp]

theorem overlay_getElem_kept {n : Nat} (p : List Byte) (buf : Vector Byte n) (i : Nat) (h : i < n) (hp : p.length ≤ i) :
    (overlay p buf)[i] = buf[i] := by simp [overlay_getElem, hp]

theorem overlay_take {n : Nat} (p : List Byte) (buf : Vector Byte n) (h : p.length ≤ n) :
    (overlay p buf).toList.take p.length = p := by
  apply List.ext_getElem
  · simp [h]
  · intro i h1 h2
    simp [overlay_getElem, h2]

theorem overlay_toList {n : Nat} (p : List Byte) (buf : Vector Byte n) (h : p.length = n) : (overlay p buf).toList = p := by
  have := overlay_take p buf (by omega)
  rwa [h, List.take_of_length_le (by simp)] at this

/-- What a packet of at most 20 bytes loaded into `TXBUF` is when it is read back. -/
@[simp] theorem State.loadTx_txBytes (s : State) (p : List Byte) (h : p.length ≤ 20) : (s.loadTx p).txBytes = p := by
  have hl : p.length % 32 = p.length := Nat.mod_eq_of_lt (by omega)
  simp only [State.txBytes, State.loadTx, BitVec.toNat_ofNat, Nat.reducePow, hl]
  exact overlay_take p s.txbuf h

/-- What bytes loaded into `RXBUF` are when they are read back. -/
@[simp] theorem State.loadRx_rxBytes (s : State) (p : List Byte) (h : p.length ≤ 20) : (s.loadRx p).rxBytes = p := by
  have hl : p.length % 32 = p.length := Nat.mod_eq_of_lt (by omega)
  simp only [State.rxBytes, State.loadRx, BitVec.toNat_ofNat, Nat.reducePow, hl]
  exact overlay_take p s.rxbuf h

theorem padPayload_getElem (n : Nat) (g : Nat → Byte) (j : Nat) (h : j < 8) :
    (padPayload n g)[j] = if j < n then g j else 0 := by simp [padPayload]

/-! ### The transport -/

/-- The next answer depends on the answers already fixed and on the counter alone. -/
theorem State.draw_congr {s t : State} (ha : s.answers = t.answers) (hd : s.draws = t.draws) : s.draw = t.draw := by
  simp [State.draw, ha, hd]

theorem State.afterDraw_congr {s t : State} (ha : s.answers = t.answers) (hd : s.draws = t.draws) :
    s.afterDraw.answers = t.afterDraw.answers ∧ s.afterDraw.draws = t.afterDraw.draws := by
  unfold State.afterDraw
  rw [← ha, ← hd]
  split <;> simp_all

/-- A call to the transport changes what is around the block and nothing of the block. -/
theorem State.afterOpen_eq (s : State) : s.afterOpen =
    { s with
      answers := s.afterDraw.answers, draws := s.afterDraw.draws
      calls := .tOpen Config.path Config.lineSettings s.openAnswer :: s.calls } := by
  unfold State.afterOpen
  rw [State.afterDraw_eq]

theorem State.afterWrite_eq (s : State) (p : List Byte) : s.afterWrite p =
    { s with
      answers := s.afterDraw.answers, draws := s.afterDraw.draws
      calls := .tWrite p (s.writeAnswer p) :: s.calls } := by
  unfold State.afterWrite
  rw [State.afterDraw_eq]

theorem State.afterRead_eq (s : State) (n : Nat) : s.afterRead n =
    { s with
      answers := s.afterDraw.answers, draws := s.afterDraw.draws
      unread := if s.draw.err then s.available else s.available.drop (min s.draw.count n)
      calls := .tRead n (s.readAnswer n) :: s.calls } := by
  unfold State.afterRead
  rw [State.afterDraw_eq]

/-- A packet built into `TXBUF` does not change what the transport answers. -/
@[simp] theorem State.loadTx_draw (s : State) (p : List Byte) : (s.loadTx p).draw = s.draw :=
  State.draw_congr rfl rfl

@[simp] theorem State.loadTx_afterDraw_answers (s : State) (p : List Byte) :
    (s.loadTx p).afterDraw.answers = s.afterDraw.answers := (State.afterDraw_congr (s := s.loadTx p) (t := s) rfl rfl).1

@[simp] theorem State.loadTx_afterDraw_draws (s : State) (p : List Byte) :
    (s.loadTx p).afterDraw.draws = s.afterDraw.draws := (State.afterDraw_congr (s := s.loadTx p) (t := s) rfl rfl).2

/-- What a `T_write` answers depends on the next answer alone. -/
theorem State.writeAnswer_congr {s t : State} (h : s.draw = t.draw) (p : List Byte) : s.writeAnswer p = t.writeAnswer p := by
  simp only [State.writeAnswer, h]

/-- What a `T_read` answers depends on the next answer and the unread bytes alone. -/
theorem State.readAnswer_congr {s t : State} (h : s.draw = t.draw) (hu : s.unread = t.unread) (n : Nat) :
    s.readAnswer n = t.readAnswer n := by
  simp only [State.readAnswer, State.available, h, hu]

/-- `T_write` answers `ERR` or a count within the length (20_memory.md R87). -/
theorem State.writeAnswer_cases (s : State) (p : List Byte) :
    (s.draw.err = true ∧ s.writeAnswer p = none) ∨
      (s.draw.err = false ∧ s.writeAnswer p = some (min s.draw.count p.length)) := by
  cases h : s.draw.err <;> simp [State.writeAnswer, h]

/-- `T_read` answers `ERR` or the first available bytes (60_exceptions.md R290). -/
theorem State.readAnswer_cases (s : State) (n : Nat) :
    (s.draw.err = true ∧ s.readAnswer n = none) ∨
      (s.draw.err = false ∧ s.readAnswer n = some (s.available.take (min s.draw.count n))) := by
  cases h : s.draw.err <;> simp [State.readAnswer, h]

/-! ### Packets -/

@[simp] theorem sealPacket_length (bs : List Byte) : (sealPacket bs).length = bs.length + 1 := by simp [sealPacket]

@[simp] theorem configPacket_length (b : BitVec 4) (m : OpMode) : (configPacket b m).length = 20 := rfl

@[simp] theorem statusPacket_length : statusPacket.length = 20 := rfl

@[simp] theorem idBytes_length (o : IdOrder) (k : IdKind) (id : BitVec 32) : (idBytes o k id).length = idWidth k := by
  cases o <;> cases k <;> rfl

theorem idWidth_bounds (k : IdKind) : 2 ≤ idWidth k ∧ idWidth k ≤ 4 := by cases k <;> decide

/-- The length of an encoded packet (30_encoding.md R116). -/
theorem encodePacket_length (P : Params) (f : FrameReg) (h : f.len ≤ 8) :
    (encodePacket P f).length = 3 + idWidth f.ide + f.len.toNat := by
  have h8 : f.len.toNat ≤ 8 := h
  simp [encodePacket]
  omega

/-- The two ways a packet decodes badly (43_data_frame.md R212): `TooMuchPayload` is not among them. -/
theorem decodePacketFrame_error {P : Params} {bs : List Byte} {e : ResultCode} (h : decodePacketFrame P bs = .error e) :
    e = .malformedFrame ∨ e = .identifierOutOfRange := by
  unfold decodePacketFrame at h
  split at h
  · dsimp only at h
    repeat' split at h
    all_goals simp_all
  · simp_all

end Sys2Proof.Machine
end

