-- ==== Sys2Proof/Laws/PerInstr.lean ====
section
/-! SUPPORT. Statements made instruction by instruction, about an instruction as text. -/

namespace Sys2Proof.Laws

/-- Family `ImageKind`: a command is encoded as a command word whose `OP` names its operation, a wire packet as a packet that begins
with the start marker (30_encoding.md R100, R110, R114, R115, R116). -/
def ImageKind.Statement (i : Instr) : Prop :=
  (i.isCommand = true → ∃ c o, encode i = .command c ∧ opcodeOfInstr i = some o) ∧
    (i.isCommand = false → ∃ bs, encode i = .packet (startMarker :: bs))

theorem ImageKind.csumClr : ImageKind.Statement .csumClr :=
  ⟨fun _ => ⟨_, _, rfl, rfl⟩, fun h => Bool.noConfusion h⟩

theorem ImageKind.csumAdd (b : Byte) : ImageKind.Statement (.csumAdd b) :=
  ⟨fun _ => ⟨_, _, rfl, rfl⟩, fun h => Bool.noConfusion h⟩

theorem ImageKind.csumRd : ImageKind.Statement .csumRd :=
  ⟨fun _ => ⟨_, _, rfl, rfl⟩, fun h => Bool.noConfusion h⟩

theorem ImageKind.frameNew (k : IdKind) (r : FrameKind) (n : BitVec 4) (i : BitVec 32) (d : BitVec 64) : ImageKind.Statement (.frameNew k r n i d) :=
  ⟨fun _ => ⟨_, _, rfl, rfl⟩, fun h => Bool.noConfusion h⟩

theorem ImageKind.frameRdId (s : FrameSel) : ImageKind.Statement (.frameRdId s) :=
  ⟨fun _ => ⟨_, _, rfl, rfl⟩, fun h => Bool.noConfusion h⟩

theorem ImageKind.frameRdMeta (s : FrameSel) : ImageKind.Statement (.frameRdMeta s) :=
  ⟨fun _ => ⟨_, _, rfl, rfl⟩, fun h => Bool.noConfusion h⟩

theorem ImageKind.frameRdData (s : FrameSel) : ImageKind.Statement (.frameRdData s) :=
  ⟨fun _ => ⟨_, _, rfl, rfl⟩, fun h => Bool.noConfusion h⟩

theorem ImageKind.frameWrByte (s : FrameSel) (j : BitVec 5) (b : Byte) : ImageKind.Statement (.frameWrByte s j b) :=
  ⟨fun _ => ⟨_, _, rfl, rfl⟩, fun h => Bool.noConfusion h⟩

theorem ImageKind.buildConfig (b : BitVec 4) (m : OpMode) : ImageKind.Statement (.buildConfig b m) :=
  ⟨fun _ => ⟨_, _, rfl, rfl⟩, fun h => Bool.noConfusion h⟩

theorem ImageKind.buildStatus : ImageKind.Statement .buildStatus :=
  ⟨fun _ => ⟨_, _, rfl, rfl⟩, fun h => Bool.noConfusion h⟩

theorem ImageKind.encodeFrame (s : FrameSel) : ImageKind.Statement (.encodeFrame s) :=
  ⟨fun _ => ⟨_, _, rfl, rfl⟩, fun h => Bool.noConfusion h⟩

theorem ImageKind.txRd (j : BitVec 5) : ImageKind.Statement (.txRd j) :=
  ⟨fun _ => ⟨_, _, rfl, rfl⟩, fun h => Bool.noConfusion h⟩

theorem ImageKind.rxClr : ImageKind.Statement .rxClr :=
  ⟨fun _ => ⟨_, _, rfl, rfl⟩, fun h => Bool.noConfusion h⟩

theorem ImageKind.rxAppend (b : Byte) : ImageKind.Statement (.rxAppend b) :=
  ⟨fun _ => ⟨_, _, rfl, rfl⟩, fun h => Bool.noConfusion h⟩

theorem ImageKind.decodeFrame : ImageKind.Statement .decodeFrame :=
  ⟨fun _ => ⟨_, _, rfl, rfl⟩, fun h => Bool.noConfusion h⟩

theorem ImageKind.checkPkt : ImageKind.Statement .checkPkt :=
  ⟨fun _ => ⟨_, _, rfl, rfl⟩, fun h => Bool.noConfusion h⟩

theorem ImageKind.rxPush (b : Byte) : ImageKind.Statement (.rxPush b) :=
  ⟨fun _ => ⟨_, _, rfl, rfl⟩, fun h => Bool.noConfusion h⟩

theorem ImageKind.openSession (b : BitVec 4) (m : OpMode) : ImageKind.Statement (.openSession b m) :=
  ⟨fun _ => ⟨_, _, rfl, rfl⟩, fun h => Bool.noConfusion h⟩

theorem ImageKind.send (s : FrameSel) : ImageKind.Statement (.send s) :=
  ⟨fun _ => ⟨_, _, rfl, rfl⟩, fun h => Bool.noConfusion h⟩

theorem ImageKind.pollStatus : ImageKind.Statement .pollStatus :=
  ⟨fun _ => ⟨_, _, rfl, rfl⟩, fun h => Bool.noConfusion h⟩

theorem ImageKind.close : ImageKind.Statement .close :=
  ⟨fun _ => ⟨_, _, rfl, rfl⟩, fun h => Bool.noConfusion h⟩

theorem ImageKind.rdState : ImageKind.Statement .rdState :=
  ⟨fun _ => ⟨_, _, rfl, rfl⟩, fun h => Bool.noConfusion h⟩

theorem ImageKind.wireConfig (b : Byte) (m : OpMode) (cs : Byte) : ImageKind.Statement (.wireConfig b m cs) :=
  ⟨fun h => Bool.noConfusion h, fun _ => ⟨_, rfl⟩⟩

theorem ImageKind.wireStatus : ImageKind.Statement .wireStatus :=
  ⟨fun h => Bool.noConfusion h, fun _ => ⟨_, rfl⟩⟩

theorem ImageKind.wireStatusResponse (v : Vector Byte 17) (cs : Byte) : ImageKind.Statement (.wireStatusResponse v cs) :=
  ⟨fun h => Bool.noConfusion h, fun _ => ⟨_, rfl⟩⟩

theorem ImageKind.wireDataStdData (n : BitVec 4) (v : Vector Byte 2) (p : List Byte) (e : Byte) : ImageKind.Statement (.wireDataStdData n v p e) :=
  ⟨fun h => Bool.noConfusion h, fun _ => ⟨_, rfl⟩⟩

theorem ImageKind.wireDataStdRemote (n : BitVec 4) (v : Vector Byte 2) (p : List Byte) (e : Byte) : ImageKind.Statement (.wireDataStdRemote n v p e) :=
  ⟨fun h => Bool.noConfusion h, fun _ => ⟨_, rfl⟩⟩

theorem ImageKind.wireDataExtData (n : BitVec 4) (v : Vector Byte 4) (p : List Byte) (e : Byte) : ImageKind.Statement (.wireDataExtData n v p e) :=
  ⟨fun h => Bool.noConfusion h, fun _ => ⟨_, rfl⟩⟩

theorem ImageKind.wireDataExtRemote (n : BitVec 4) (v : Vector Byte 4) (p : List Byte) (e : Byte) : ImageKind.Statement (.wireDataExtRemote n v p e) :=
  ⟨fun h => Bool.noConfusion h, fun _ => ⟨_, rfl⟩⟩

end Sys2Proof.Laws
end

