-- ==== Sys2Proof/Laws/Word.lean ====
section
/-! SUPPORT. Fields in their places, and the codes of the enumerations. -/

namespace Sys2Proof

/-- The bits of a field in its place. -/
theorem getLsbD_place {w : Nat} (n a : Nat) (v : BitVec w) (i : Nat) :
    (place n a v).getLsbD i = (decide (i < n) && decide (a ≤ i) && v.getLsbD (i - a)) := by
  by_cases h : i < n <;> by_cases h2 : a ≤ i <;> simp [place, h, h2]

/-- Below a field in its place stand zero bits. -/
theorem getLsbD_place_below {w : Nat} (n a : Nat) (v : BitVec w) (i : Nat) (h : i < a) :
    (place n a v).getLsbD i = false := by
  rw [getLsbD_place]
  simp
  omega

/-- Above a field in its place stand zero bits. -/
theorem getLsbD_place_above {w : Nat} (n a : Nat) (v : BitVec w) (i : Nat) (h : a + w ≤ i) :
    (place n a v).getLsbD i = false := by
  rw [getLsbD_place]
  simp [BitVec.getLsbD_of_ge v (i - a) (by omega)]

/-- In a field's place stand its bits. -/
theorem getLsbD_place_inside {w : Nat} (n a : Nat) (v : BitVec w) (i : Nat) (h : a ≤ i) (hn : i < n) :
    (place n a v).getLsbD i = v.getLsbD (i - a) := by
  rw [getLsbD_place]
  simp only [h, hn, decide_true, Bool.true_and]

/-- A field in its place as a number. -/
theorem toNat_place {w : Nat} (n a : Nat) (v : BitVec w) (h : a + w ≤ n) : (place n a v).toNat = 2 ^ a * v.toNat := by
  have hv := v.isLt
  have h2 : 2 ^ a * 2 ^ w ≤ 2 ^ n := by
    rw [← pow_add]
    exact Nat.pow_le_pow_right (by omega) h
  have h3 : 2 ^ a * v.toNat < 2 ^ n := lt_of_lt_of_le (Nat.mul_lt_mul_of_pos_left hv (Nat.two_pow_pos a)) h2
  simp only [place, BitVec.toNat_shiftLeft, BitVec.toNat_setWidth, Nat.shiftLeft_eq]
  rw [Nat.mod_eq_of_lt (a := v.toNat), Nat.mul_comm, Nat.mod_eq_of_lt h3]
  exact lt_of_lt_of_le hv (Nat.pow_le_pow_right (by omega) (by omega))

/-- A field put in a place above what is already there is added to it. -/
theorem toNat_or_place {w n : Nat} (a : Nat) (x : BitVec n) (v : BitVec w) (h : a + w ≤ n) (hx : x.toNat < 2 ^ a) :
    (x ||| place n a v).toNat = x.toNat + 2 ^ a * v.toNat := by
  rw [BitVec.toNat_or, toNat_place _ _ _ h, Nat.or_comm, ← Nat.two_pow_add_eq_or_of_lt hx, Nat.add_comm]

@[simp] theorem IdKind.ofBit_bit (k : IdKind) : IdKind.ofBit k.bit = k := by cases k <;> rfl
@[simp] theorem FrameKind.ofBit_bit (k : FrameKind) : FrameKind.ofBit k.bit = k := by cases k <;> rfl
@[simp] theorem FrameSel.ofBit_bit (k : FrameSel) : FrameSel.ofBit k.bit = k := by cases k <;> rfl
@[simp] theorem OpMode.ofCode_code (k : OpMode) : OpMode.ofCode k.code = k := by cases k <;> rfl
@[simp] theorem IdKind.bit_ofBit (b : BitVec 1) : (IdKind.ofBit b).bit = b := by revert b; decide
@[simp] theorem FrameKind.bit_ofBit (b : BitVec 1) : (FrameKind.ofBit b).bit = b := by revert b; decide
@[simp] theorem FrameSel.bit_ofBit (b : BitVec 1) : (FrameSel.ofBit b).bit = b := by revert b; decide
@[simp] theorem OpMode.code_ofCode (b : BitVec 2) : (OpMode.ofCode b).code = b := by revert b; decide

end Sys2Proof
end

