-- ==== Sys2Proof/Tests/Slice0.lean ====
section
/-! SUPPORT. Tests: vectors of spec/95_test_vectors.md (named V-..) and of the rules' own examples, one step or a few on small states;
the WellFormed smoke tests; decoding tests on words written out from the encoding; and for every statement with hypotheses a witness
that meets them. -/

namespace Sys2Proof.Tests

open Sys2Proof Sys2Proof.Machine

/-! ## Helpers -/

/-- The next state of an outcome; `State.reset` for the others, which this machine never gives. -/
def nextOf : Result → State
  | .next t => t
  | .fault _ => State.reset
  | .refused _ => State.reset

/-- The state after instructions in a row. -/
def after (is : List Instr) (s : State) : State := nextOf (execAll is s)

/-- A state with one command word presented. -/
def presenting (c : CmdWord) (s : State) : State := { s with port := [.present (.command c)] }

/-- The response given last, as plain values. -/
def answer (s : State) : Option (ResultCode × BitVec 32 × BitVec 64) := s.lastResponse.map fun r => (r.res, r.rval, r.rdata)

/-- What a frame register holds, as plain values. -/
def contents (f : FrameReg) : Bool × BitVec 32 × IdKind × FrameKind × BitVec 4 × List Byte :=
  (f.valid, f.id, f.ide, f.rtr, f.len, f.data.toList)

/-- An answer that is a count (or `OK`). -/
def count (n : Nat) : Draw := { err := false, count := n, lost := 0, arrived := [] }

/-- An answer that is `ERR`. -/
def failing : Draw := { err := true, count := 0, lost := 0, arrived := [] }

/-- An answer to a `T_read`: these bytes. -/
def bytesRead (bs : List Byte) : Draw := { err := false, count := 20, lost := 0, arrived := bs }

/-- A frame: Standard Data, `ID 0x123`, `LEN 2`, `DATA 11 22` (V-FR-9). -/
def frame123 : FrameReg :=
  { valid := true, id := 0x123, ide := .standard, rtr := .data, len := 2, data := #v[0x11, 0x22, 0, 0, 0, 0, 0, 0] }

/-- A frame: Extended Data, `ID 0x12345678`, `LEN 8` (V-EN-2). -/
def frameExt : FrameReg :=
  { valid := true, id := 0x12345678, ide := .extended, rtr := .data, len := 8, data := #v[1, 2, 3, 4, 5, 6, 7, 8] }

/-- Reset, with `TXF` holding `frame123`. -/
def withTx : State := { State.reset with txf := frame123 }

/-- A Ready session with `frame123` in `TXF` and the given transport answers. -/
def ready (ds : List Draw) : State := { withTx with sessState := .ready, tportOpen := true, answers := ds }

/-- The status response of V-SE-14. -/
def response14 : List Byte := [0xAA, 0x55, 0x04, 0, 3, 5, 0, 0, 0, 0, 0, 0, 0, 0, 0, 0, 0, 0, 0, 0x0C]

/-- The parameters of spec/95_test_vectors.md, with the given order, marker check and counter update. -/
def vectorParams (o : IdOrder) (m : Bool) (u : CntUpdate) : Params :=
  { idOrder := o, markerCheck := m, cntUpdate := u, flagsOff := 3, rxErrOff := 4, txErrOff := 5 }

/-! ## Well-formedness: an ill-formed term for each check -/

/-- 30_encoding.md R106: `FRAME_WR_BYTE` with `IDX > 7`. -/
theorem test_wf_refuses_idx : WellFormed (.frameWrByte .txf 8 0) = false := by decide
/-- 30_encoding.md R103: `BAUD = 0`. -/
theorem test_wf_refuses_baud_0 : WellFormed (.buildConfig 0 .normal) = false := by decide
/-- 30_encoding.md R103: `BAUD = 0xD`. -/
theorem test_wf_refuses_baud_13 : WellFormed (.openSession 13 .normal) = false := by decide
/-- 90_conflicts.md C1: `0x09` is the wrong checksum. -/
theorem test_wf_refuses_config_checksum : WellFormed (.wireConfig 7 .normal 0x09) = false := by decide
theorem test_wf_accepts_config_checksum : WellFormed (.wireConfig 7 .normal 0x1C) = true := by decide
theorem test_wf_refuses_config_baud : WellFormed (.wireConfig 13 .normal 0x22) = false := by decide
/-- V-PK-10: last byte `0D`. -/
theorem test_wf_refuses_response_checksum :
    WellFormed (.wireStatusResponse #v[4, 0, 3, 5, 0, 0, 0, 0, 0, 0, 0, 0, 0, 0, 0, 0, 0] 0x0D) = false := by decide
/-- V-DE-4: DLC 9. -/
theorem test_wf_refuses_dlc : WellFormed (.wireDataStdData 9 #v[0, 0] [0, 0, 0, 0, 0, 0, 0, 0, 0] 0x55) = false := by decide
theorem test_wf_refuses_payload_length : WellFormed (.wireDataStdData 2 #v[0, 0] [0] 0x55) = false := by decide
/-- V-DE-2: no end marker. -/
theorem test_wf_refuses_end_marker : WellFormed (.wireDataStdRemote 0 #v[0, 0] [] 0x00) = false := by decide
/-- V-DE-5: Standard identifier field `0x0800`. -/
theorem test_wf_refuses_std_id : WellFormed (.wireDataStdData 0 #v[0x00, 0x08] [] 0x55) = false := by decide
/-- V-DE-6: Extended identifier field `0x20000000`. -/
theorem test_wf_refuses_ext_id : WellFormed (.wireDataExtData 0 #v[0, 0, 0, 0x20] [] 0x55) = false := by decide
theorem test_wf_accepts_ext_remote : WellFormed (.wireDataExtRemote 0 #v[0xFF, 0xFF, 0xFF, 0x1F] [] 0x55) = true := by decide

/-! ## Decoding: a word of every command, from the tables of 30_encoding.md R100 and R101 -/

theorem test_decode_csum_clr : decode (.command 0x1) = .ok .csumClr := by decide
theorem test_decode_csum_add : decode (.command 0x01000002) = .ok (.csumAdd 1) := by decide
theorem test_decode_csum_rd : decode (.command 0x3) = .ok .csumRd := by decide
/-- V-FR-5. -/
theorem test_decode_frame_new_data : decode (.command 0x08070605040302010000000000000804) =
    .ok (.frameNew .standard .data 8 0 0x0807060504030201) := by decide
/-- V-FR-20 and V-FR-3: the frame-kind and identifier-kind bits. -/
theorem test_decode_frame_new_bits :
    decode (.command 0x0000000000A3A2A10000001000000384) = .ok (.frameNew .standard .remote 3 0x10 0xA3A2A1) ∧
      decode (.command 0x00000000000000001FFFFFFF00000044) = .ok (.frameNew .extended .data 0 0x1FFFFFFF 0) := by decide
theorem test_decode_frame_rd_id : decode (.command 0x25) = .ok (.frameRdId .rxf) := by decide
theorem test_decode_frame_rd_meta : decode (.command 0x6) = .ok (.frameRdMeta .txf) := by decide
theorem test_decode_frame_rd_data : decode (.command 0x27) = .ok (.frameRdData .rxf) := by decide
/-- V-FR-14. -/
theorem test_decode_frame_wr_byte : decode (.command 0xEE140008) = .ok (.frameWrByte .txf 5 0xEE) := by decide
/-- V-PK-5. -/
theorem test_decode_build_config : decode (.command 0x00025009) = .ok (.buildConfig 5 .silent) := by decide
theorem test_decode_build_status : decode (.command 0xA) = .ok .buildStatus := by decide
theorem test_decode_encode : decode (.command 0x2B) = .ok (.encodeFrame .rxf) := by decide
/-- P1, step 21. -/
theorem test_decode_tx_rd : decode (.command 0x004C000C) = .ok (.txRd 19) := by decide
theorem test_decode_rx_clr : decode (.command 0xD) = .ok .rxClr := by decide
theorem test_decode_rx_append : decode (.command 0xAA00000E) = .ok (.rxAppend 0xAA) := by decide
theorem test_decode_decode : decode (.command 0xF) = .ok .decodeFrame := by decide
theorem test_decode_check_pkt : decode (.command 0x10) = .ok .checkPkt := by decide
theorem test_decode_rx_push : decode (.command 0xFF000011) = .ok (.rxPush 0xFF) := by decide
theorem test_decode_open : decode (.command 0x7012) = .ok (.openSession 7 .normal) := by decide
theorem test_decode_send : decode (.command 0x33) = .ok (.send .rxf) := by decide
theorem test_decode_poll_status : decode (.command 0x14) = .ok .pollStatus := by decide
theorem test_decode_close : decode (.command 0x15) = .ok .close := by decide
theorem test_decode_rd_state : decode (.command 0x16) = .ok .rdState := by decide

/-- V-IL-1, V-IL-2, V-IL-3: unassigned `OP`. -/
theorem test_decode_refuses_op :
    decode (.command 0x0) = .error .unassignedOp ∧ decode (.command 0x17) = .error .unassignedOp ∧
      decode (.command 0x1F) = .error .unassignedOp := by decide
/-- V-IL-4, V-IL-5, V-IL-6, V-IL-8, V-CS-9: `RSV` or an unused field nonzero. -/
theorem test_decode_refuses_fields :
    decode (.command 0x00800016) = .error .nonzeroField ∧
      decode (.command 0x00000000000000000000000100000024) = .error .nonzeroField ∧
      decode (.command 0x1200000B) = .error .nonzeroField ∧
      decode (.command 0x00000000000000010000000001000002) = .error .nonzeroField ∧
      decode (.command 0x21) = .error .nonzeroField := by decide

/-- Wire packets: the source's literal packet (V-PK-1), the status packet (V-PK-6) and the response of V-PK-9. -/
theorem test_decode_wire20 :
    decode (.packet [0xAA, 0x55, 0x12, 7, 2, 0, 0, 0, 0, 0, 0, 0, 0, 0, 1, 0, 0, 0, 0, 0x1C]) = .ok (.wireConfig 7 .normal 0x1C) ∧
      decode (.packet [0xAA, 0x55, 4, 0, 0, 0, 0, 0, 0, 0, 0, 0, 0, 0, 0, 0, 0, 0, 0, 4]) = .ok .wireStatus ∧
      decode (.packet response14) =
        .ok (.wireStatusResponse #v[4, 0, 3, 5, 0, 0, 0, 0, 0, 0, 0, 0, 0, 0, 0, 0, 0] 0x0C) := by decide
/-- Wire packets: V-EN-1, V-EN-3, V-DF-10 and V-EN-4, one of each data-frame kind. -/
theorem test_decode_wire_data :
    decode (.packet [0xAA, 0xC2, 0x23, 0x01, 0x11, 0x22, 0x55]) = .ok (.wireDataStdData 2 #v[0x23, 0x01] [0x11, 0x22] 0x55) ∧
      decode (.packet [0xAA, 0xD0, 0xFF, 0x07, 0x55]) = .ok (.wireDataStdRemote 0 #v[0xFF, 0x07] [] 0x55) ∧
      decode (.packet [0xAA, 0xE0, 0x78, 0x56, 0x34, 0x12, 0x55]) =
        .ok (.wireDataExtData 0 #v[0x78, 0x56, 0x34, 0x12] [] 0x55) ∧
      decode (.packet [0xAA, 0xF0, 0xFF, 0xFF, 0xFF, 0x1F, 0x55]) =
        .ok (.wireDataExtRemote 0 #v[0xFF, 0xFF, 0xFF, 0x1F] [] 0x55) := by decide
theorem test_decode_refuses_packet : decode (.packet [0xAA, 0x42, 0x23]) = .error .notAPacket := by decide

/-- The masks of spec/opcode_table.json are those that R101's used fields give. -/
theorem test_table_masks : ∀ r ∈ opcodeRows,
    r.mask = wordOfFields
      { op := 0x1F, rsv := 1, sel := if (usesOf r.opcode).sel then 0 else 1, ide := if (usesOf r.opcode).ide then 0 else 1
        rtr := if (usesOf r.opcode).rtr then 0 else 1, len := if (usesOf r.opcode).len then 0 else 0xF
        baud := if (usesOf r.opcode).baud then 0 else 0xF, mode := if (usesOf r.opcode).mode then 0 else 3
        idx := if (usesOf r.opcode).idx then 0 else 0x1F, byte := if (usesOf r.opcode).byte then 0 else 0xFF
        id := if (usesOf r.opcode).id then 0 else 0xFFFFFFFF
        data := if (usesOf r.opcode).data then 0 else 0xFFFFFFFFFFFFFFFF } := by decide

/-! ## The host's numbering of the table -/

theorem test_table_word_packets :
    decodeTableWord 16 0xAAC0 = some (.wireDataStdData 0 #v[0, 0] [] 0) ∧
      decodeTableWord 16 0xC0AA = some (.wireDataStdData 0 #v[0, 0] [] 0) ∧
      decodeTableWord 160 0xAA55040000000000000000000000000000000004 = some .wireStatus := by decide
theorem test_table_word_command : decodeTableWord 128 0x7009 = some (.buildConfig 7 .normal) := by decide
/-- A word presented to the machine right after reset is performed by the next step (V-CS-1). -/
theorem test_fetch_word_runs : answer (nextOf (step (State.reset.withFetchWord 128 0x3))) = some (.ok, 0, 0) := by decide
theorem test_fetch_packet_runs : (nextOf (step (State.reset.withFetchWord 16 0xAAF0))).unread =
    [0xAA, 0xF0, 0, 0, 0, 0, 0] := by decide

/-! ## Checksum unit -/

/-- R142's example: `0x1234` is cleared. -/
theorem test_csum_clr : (nextOf (exec .csumClr { State.reset with csumAcc := 0x1234 })).csumAcc = 0 := by decide
/-- V-CS-8: the accumulator wraps. -/
theorem test_csum_add_wraps : (nextOf (exec (.csumAdd 1) { State.reset with csumAcc := 0xFFFF })).csumAcc = 0 := by decide
/-- V-CS-4: only the low byte is returned. -/
theorem test_csum_rd_low_byte : answer (after [.csumAdd 0xFF, .csumAdd 0xFF, .csumRd] State.reset) = some (.ok, 0xFE, 0) := by decide
/-- V-CS-2. -/
theorem test_csum_pseudo : answer (after (pseudoCsum [0x12, 7, 2, 0, 1]) State.reset) = some (.ok, 0x1C, 0) := by decide
/-- R182 and C1. -/
theorem test_checksum_config : checksum [0x12, 0x07, 0x02, 0x00, 0x01] = 0x1C := by decide

/-! ## Frame registers -/

/-- V-FR-9: bytes beyond `LEN` are stored as 0. -/
theorem test_frame_new : contents (nextOf (exec (.frameNew .standard .data 2 0x123 0x332211) State.reset)).txf =
    (true, 0x123, .standard, .data, 2, [0x11, 0x22, 0, 0, 0, 0, 0, 0]) := by decide
/-- V-FR-7: `TooMuchPayload` wins; V-FR-2 and V-FR-4. -/
theorem test_frame_new_errors :
    answer (nextOf (exec (.frameNew .standard .data 9 0x800 0) State.reset)) = some (.tooMuchPayload, 0, 0) ∧
      answer (nextOf (exec (.frameNew .standard .data 0 0x800 0) State.reset)) = some (.identifierOutOfRange, 0, 0) ∧
      answer (nextOf (exec (.frameNew .extended .data 0 0x20000000 0) State.reset)) = some (.identifierOutOfRange, 0, 0) := by decide
/-- V-FR-11 and V-FR-17. -/
theorem test_frame_rd_id : answer (nextOf (exec (.frameRdId .txf) withTx)) = some (.ok, 0x123, 0) ∧
    answer (nextOf (exec (.frameRdId .rxf) withTx)) = some (.noFrame, 0, 0) := by decide
/-- V-FR-19: Extended Remote of length 0. -/
theorem test_frame_rd_meta : answer (nextOf (exec (.frameRdMeta .txf) { State.reset with
    txf := { frame123 with ide := .extended, rtr := .remote, len := 0 } })) = some (.ok, 0x30, 0) := by decide
/-- V-FR-15. -/
theorem test_frame_rd_data : answer (after [.frameWrByte .txf 5 0xEE, .frameRdData .txf] withTx) =
    some (.ok, 2, 0x0000EE0000002211) := by decide
/-- R168's example. -/
theorem test_frame_wr_byte : contents (nextOf (exec (.frameWrByte .txf 1 0x99) withTx)).txf =
    (true, 0x123, .standard, .data, 2, [0x11, 0x99, 0, 0, 0, 0, 0, 0]) := by decide
/-- V-FR-18: `IllegalCommand` before `NoFrame`. -/
theorem test_frame_wr_byte_illegal : answer (nextOf (exec (.frameWrByte .txf 9 1) State.reset)) = some (.illegalCommand, 0, 0) := by
  decide

/-! ## 20-byte packets -/

/-- V-PK-3. -/
theorem test_build_config : (nextOf (exec (.buildConfig 0xC .loopbackSilent) State.reset)).txBytes =
    [0xAA, 0x55, 0x12, 0x0C, 2, 0, 0, 0, 0, 0, 0, 0, 0, 3, 1, 0, 0, 0, 0, 0x24] := by decide
/-- V-PK-8, V-IL-7: an illegal `BAUD`, from the command word on. -/
theorem test_illegal_baud : answer (nextOf (step (presenting 0xD009 State.reset))) = some (.illegalCommand, 0, 0) ∧
    answer (nextOf (step (presenting 0xF012 State.reset))) = some (.illegalCommand, 0, 0) := by decide
/-- V-PK-6. -/
theorem test_build_status : (nextOf (exec .buildStatus State.reset)).txBytes =
    [0xAA, 0x55, 4, 0, 0, 0, 0, 0, 0, 0, 0, 0, 0, 0, 0, 0, 0, 0, 0, 4] := by decide
/-- V-PK-9 and V-PK-10. -/
theorem test_check_pkt : answer (nextOf (exec .checkPkt (State.reset.loadRx response14))) = some (.ok, 0xC, 0) ∧
    answer (nextOf (exec .checkPkt (State.reset.loadRx (response14.take 19 ++ [0x0D])))) = some (.checksumMismatch, 0, 0) := by decide
/-- V-PK-11 and V-PK-12. -/
theorem test_check_pkt_malformed : answer (nextOf (exec .checkPkt (State.reset.loadRx (response14.take 19)))) =
      some (.packetMalformed, 0, 0) ∧
    answer (nextOf (exec .checkPkt (State.reset.loadRx (0xAA :: 0x54 :: response14.drop 2)))) = some (.packetMalformed, 0, 0) := by
  decide

/-! ## Data frames -/

/-- V-EN-1. -/
theorem test_encode : (nextOf (exec (.encodeFrame .txf) withTx)).txBytes = [0xAA, 0xC2, 0x23, 0x01, 0x11, 0x22, 0x55] := by decide
/-- V-EN-2 and V-EN-8: an Extended frame in both orders. -/
theorem test_encode_orders : encodePacket (vectorParams .le true .satAccumulate) frameExt =
      [0xAA, 0xE8, 0x78, 0x56, 0x34, 0x12, 1, 2, 3, 4, 5, 6, 7, 8, 0x55] ∧
    encodePacket (vectorParams .be true .satAccumulate) frameExt =
      [0xAA, 0xE8, 0x12, 0x34, 0x56, 0x78, 1, 2, 3, 4, 5, 6, 7, 8, 0x55] := by decide
/-- V-EN-10 and V-EN-11. -/
theorem test_tx_rd : answer (after [.encodeFrame .txf, .txRd 6] withTx) = some (.ok, 0x55, 0) ∧
    answer (after [.encodeFrame .txf, .txRd 7] withTx) = some (.illegalCommand, 0, 0) := by decide
theorem test_rx_clr : (nextOf (exec .rxClr { State.reset with rxlen := 7 })).rxlen = 0 := by decide
/-- R208's example. -/
theorem test_rx_append : (answer (after [.rxClr, .rxAppend 0xAA] State.reset), (after [.rxClr, .rxAppend 0xAA] State.reset).rxBytes) =
    (some (.ok, 1, 0), [0xAA]) := by decide
/-- V-DE-20: the 21st byte. -/
theorem test_rx_append_full : answer (nextOf (exec (.rxAppend 1) { State.reset with rxlen := 20 })) = some (.bufferOverflow, 0, 0) := by
  decide
/-- V-DE-11: bytes after the end marker are not examined. -/
theorem test_decode_frame : contents (nextOf (exec .decodeFrame
      (State.reset.loadRx [0xAA, 0xC0, 0x23, 0x01, 0x55, 0xAA, 0xBB]))).rxf =
    (true, 0x123, .standard, .data, 0, [0, 0, 0, 0, 0, 0, 0, 0]) := by decide
/-- V-DE-2, V-DE-3, V-DE-5 and V-DE-6. -/
theorem test_decode_frame_errors :
    answer (nextOf (exec .decodeFrame (State.reset.loadRx [0xAA, 0xC2, 0x23, 1, 0x11, 0x22, 0]))) = some (.malformedFrame, 0, 0) ∧
      answer (nextOf (exec .decodeFrame (State.reset.loadRx [0xAA, 0xC2, 0x23, 1, 0x11, 0x22]))) = some (.malformedFrame, 0, 0) ∧
      answer (nextOf (exec .decodeFrame (State.reset.loadRx [0xAA, 0xC0, 0, 8, 0x55]))) = some (.identifierOutOfRange, 0, 0) ∧
      answer (nextOf (exec .decodeFrame (State.reset.loadRx [0xAA, 0xE0, 0, 0, 0, 0x20, 0x55]))) =
        some (.identifierOutOfRange, 0, 0) := by decide
/-- V-DE-10: with `P_CTRL_MARKER_CHECK = 0` the marker bits are ignored; V-DE-9: with 1 they are not. -/
theorem test_decode_marker_check :
    decodePacketFrame (vectorParams .le false .satAccumulate) [0xAA, 0x42, 0x23, 1, 0x11, 0x22, 0x55] = .ok (frame123, 7) ∧
      decodePacketFrame (vectorParams .le true .satAccumulate) [0xAA, 0x42, 0x23, 1, 0x11, 0x22, 0x55] =
        .error .malformedFrame := by decide
/-- V-DE-15: `BE`. -/
theorem test_decode_be : decodePacketFrame (vectorParams .be true .satAccumulate)
      [0xAA, 0xE8, 0x12, 0x34, 0x56, 0x78, 1, 2, 3, 4, 5, 6, 7, 8, 0x55] = .ok (frameExt, 15) := by decide

/-- V-DF-1: the responses of the pushes, oldest first, and the frame. -/
theorem test_rx_push :
    ((after ([0, 0xAA, 0xC2, 0x23, 1, 0x11, 0x22, 0x55].map Instr.rxPush) State.reset).responses.reverse.map fun r => (r.res, r.rval)) =
      [(.inProgress, 0), (.inProgress, 0x11), (.inProgress, 0x22), (.inProgress, 0x23), (.inProgress, 0x24), (.inProgress, 0x25),
        (.inProgress, 0x26), (.ok, 7)] ∧
    contents (after ([0, 0xAA, 0xC2, 0x23, 1, 0x11, 0x22, 0x55].map Instr.rxPush) State.reset).rxf = contents frame123 := by decide
/-- V-DF-5: an end slot that holds `AA` restarts. -/
theorem test_rx_push_restart :
    ((after ([0xAA, 0xC0, 0x23, 1, 0xAA, 0xC0, 0x45, 0, 0x55].map Instr.rxPush) State.reset).responses.reverse.map
        fun r => (r.res, r.rval)) =
      [(.inProgress, 0x11), (.inProgress, 0x22), (.inProgress, 0x23), (.inProgress, 0x24), (.malformedFrame, 0), (.inProgress, 0x22),
        (.inProgress, 0x23), (.inProgress, 0x24), (.ok, 5)] := by decide

/-! ## Session -/

/-- V-SE-1 and V-SE-3: the configuration write whole, and partial. -/
theorem test_open :
    (answer (nextOf (exec (.openSession 7 .normal) { State.reset with answers := [count 0, count 20] })),
      (nextOf (exec (.openSession 7 .normal) { State.reset with answers := [count 0, count 20] })).sessState) =
        (some (.ok, 0x14, 0), .ready) ∧
    (answer (nextOf (exec (.openSession 7 .normal) { State.reset with answers := [count 0, count 12] })),
      (nextOf (exec (.openSession 7 .normal) { State.reset with answers := [count 0, count 12] })).sessState) =
        (some (.transportUnavailable, 0, 0), .closed) := by decide
/-- V-SE-31: a failed `T_open` keeps the counters. -/
theorem test_open_fails :
    ((nextOf (exec (.openSession 7 .normal) { State.reset with answers := [failing], rxErr := 3, txErr := 5 })).rxErr,
      (nextOf (exec (.openSession 7 .normal) { State.reset with answers := [failing], rxErr := 3, txErr := 5 })).txErr) = (3, 5) := by
  decide
/-- V-SE-10, V-SE-11 and V-SE-13. -/
theorem test_send : answer (nextOf (exec (.send .txf) (ready [count 7]))) = some (.ok, 0x707, 0) ∧
    answer (nextOf (exec (.send .txf) (ready [count 3]))) = some (.ok, 0x703, 0) ∧
    answer (nextOf (exec (.send .txf) (ready [failing]))) = some (.transportWriteError, 0, 0) := by decide
/-- V-SE-9: `NotReady` before `NoFrame`; V-SE-11: the first three bytes went. -/
theorem test_send_closed : answer (nextOf (exec (.send .txf) State.reset)) = some (.notReady, 0, 0) ∧
    (nextOf (exec (.send .txf) (ready [count 3]))).sentBytes = [0xAA, 0xC2, 0x23] := by decide
/-- V-SE-15 and V-SE-16: saturation, and `ASSIGN`. -/
theorem test_poll_status :
    answer (nextOf (pollWith (vectorParams .le true .satAccumulate) { ready [count 20, bytesRead
        [0xAA, 0x55, 4, 0x80, 0x0A, 1, 0, 0, 0, 0, 0, 0, 0, 0, 0, 0, 0, 0, 0, 0x8F]] with rxErr := 250, txErr := 255 })) =
      some (.ok, 0x80FFFF06, 0) ∧
    answer (nextOf (pollWith (vectorParams .le true .assign) { ready [count 20, bytesRead
        [0xAA, 0x55, 4, 0x80, 0x0A, 1, 0, 0, 0, 0, 0, 0, 0, 0, 0, 0, 0, 0, 0, 0x8F]] with rxErr := 250, txErr := 255 })) =
      some (.ok, 0x80010A06, 0) := by decide
/-- V-SE-17, V-SE-18 (the bytes stay in `RXBUF`) and V-SE-21. -/
theorem test_poll_status_fails :
    answer (nextOf (exec .pollStatus (ready [count 20, bytesRead []]))) = some (.statusUnavailable, 0, 0) ∧
    (nextOf (exec .pollStatus (ready [count 20, bytesRead (response14.take 12)]))).rxBytes = response14.take 12 ∧
    answer (nextOf (exec .pollStatus (ready [count 19]))) = some (.statusUnavailable, 0, 0) := by decide
/-- V-SE-24 and V-SE-25: closing twice calls `T_close` once. -/
theorem test_close : (after [.close, .close] (ready [])).calls.length = 1 ∧ (after [.close] (ready [])).sessState = .closed := by decide
/-- V-SE-26. -/
theorem test_rd_state : answer (nextOf (exec .rdState { State.reset with rxErr := 3, txErr := 5 })) = some (.ok, 0x50300, 0) := by decide

/-! ## Wire packets, reset and assembler text -/

/-- 70_reset_and_hazards.md R312: bytes of a data frame in the stream are taken into the response. -/
theorem test_shared_stream :
    answer (after [.wireDataStdData 2 #v[0x23, 0x01] [0x11, 0x22] 0x55,
      .wireStatusResponse #v[4, 0, 3, 5, 0, 0, 0, 0, 0, 0, 0, 0, 0, 0, 0, 0, 0] 0x0C, .pollStatus] (ready [count 20, count 20])) =
        some (.statusUnavailable, 0, 0) := by decide
theorem test_wire_config_arrives : (nextOf (exec (.wireConfig 7 .normal 0x1C) State.reset)).unread =
    configPacket 7 .normal := by decide
theorem test_wire_status_arrives : (nextOf (exec .wireStatus State.reset)).unread = statusPacket := by decide
theorem test_wire_response_arrives : (nextOf (exec
    (.wireStatusResponse #v[4, 0, 3, 5, 0, 0, 0, 0, 0, 0, 0, 0, 0, 0, 0, 0, 0] 0x0C) State.reset)).unread = response14 := by decide
theorem test_wire_data_arrives :
    (nextOf (exec (.wireDataStdRemote 0 #v[0xFF, 0x07] [] 0x55) State.reset)).unread = [0xAA, 0xD0, 0xFF, 0x07, 0x55] ∧
    (nextOf (exec (.wireDataExtData 0 #v[0x78, 0x56, 0x34, 0x12] [] 0x55) State.reset)).unread =
      [0xAA, 0xE0, 0x78, 0x56, 0x34, 0x12, 0x55] ∧
    (nextOf (exec (.wireDataExtRemote 0 #v[0xFF, 0xFF, 0xFF, 0x1F] [] 0x55) State.reset)).unread =
      [0xAA, 0xF0, 0xFF, 0xFF, 0xFF, 0x1F, 0x55] := by decide
/-- Noise arrives too (log entry 16). -/
theorem test_noise_arrives : (nextOf (step { State.reset with port := [.present (.packet [0xFF])] })).unread = [0xFF] := by decide
/-- 70_reset_and_hazards.md R300. -/
theorem test_reset_event : (nextOf (step { ready [] with port := [.reset] })).sessState = .closed ∧
    (nextOf (step { ready [] with port := [.reset] })).txf.valid = false := by decide
/-- The examples of 30_encoding.md R122. -/
theorem test_asm : asmText (.csumAdd 0x12) = "CSUM_ADD byte=0x12" ∧
    asmText (.frameNew .standard .data 2 0x123 0x2211) = "FRAME_NEW ide=0, rtr=0, len=2, id=0x123, data=[11 22]" ∧
    asmText (.buildConfig 7 .normal) = "BUILD_CONFIG baud=0x7, mode=0" ∧ asmText (.txRd 19) = "TX_RD idx=19" ∧
    asmText (.send .txf) = "SEND sel=0" := by decide

/-! ## Witnesses: for each statement with hypotheses, operands and a state that meet them, a boundary value for each clause -/

/-- A deframer that has seen the start marker. -/
def inCtrl : State := { State.reset with dfState := .ctrl, dfN := 1, dfBuf := State.reset.dfBuf.set 0 0xAA }

/-- A deframer that has taken `n` of the five bytes of a Standard frame of length 0. -/
def inBody (n : BitVec 4) : State :=
  { State.reset with dfState := .body, dfN := n, dfExp := 5, dfBuf := (State.reset.dfBuf.set 0 0xAA).set 1 0xC0 }

/-- An end slot holds nothing of the packet; the identifier bytes are `0x0800`, out of range. -/
def inBodyOutOfRange : State := { inBody 4 with dfBuf := ((inBody 4).dfBuf.set 2 0).set 3 8 }

theorem witness_reset_invariant : State.reset.Inv := by
  refine ⟨?_, ?_, ?_, ?_, ?_, ?_, ?_⟩
  · intro h; exact absurd h (by decide)
  · intro h; exact absurd h (by decide)
  · left; rfl
  · show State.reset.rxlen ≤ 20; decide
  · rfl
  · decide
  · decide

theorem witness_legal_frames : frame123.Legal ∧ frameExt.Legal := by
  constructor <;> intro _ <;> decide

theorem witness_DecodeOfEncodeIsTheCommand :
    (Instr.frameNew .extended .remote 15 0xFFFFFFFF 0xFFFFFFFFFFFFFFFF).isCommand = true := by decide

theorem witness_DecodedWordIsTheEncoding : decode (.command 0xEE140008) = .ok (.frameWrByte .txf 5 0xEE) := by decide

theorem witness_CommandWordFieldsAtTheirBits : 0 < 8 ∧ 7 < 8 := by decide

/-- A word of a row, and so both clauses' hypotheses. -/
theorem witness_OpcodeTableRowsDecideDecoding :
    decode (.command 0xEE140008) = .ok (.frameWrByte .txf 5 0xEE) ∧
      opcodeOfInstr (.frameWrByte .txf 5 0xEE) = some .frameWrByte ∧
      ∃ r ∈ opcodeRows, r.opcode = .frameWrByte ∧ (0xEE140008 : CmdWord) &&& r.mask = r.pat := by decide

/-- The three ends of the unassigned ranges. -/
theorem witness_UnassignedOpIsIllegal :
    (presenting 0x0 State.reset).port = .present (.command 0x0) :: [] ∧ (0x0 : CmdWord).extractLsb' 0 5 = 0 ∧
      0x17 ≤ ((0x17 : CmdWord).extractLsb' 0 5).toNat ∧ 0x17 ≤ ((0x1F : CmdWord).extractLsb' 0 5).toNat := by decide

/-- For every operation a word with `RSV = 1`; and the hypotheses of the other clauses at their boundaries. -/
theorem witness_IllegalFieldsChangeNothing :
    (∀ o : Opcode, ∃ c : CmdWord, opcodeOf (fieldsOfWord c).op = some o ∧ unusedZero (usesOf o) (fieldsOfWord c) = false) ∧
      (0 : BitVec 4) = 0 ∧ 0xD ≤ (0xD : BitVec 4).toNat ∧ 7 < (8 : BitVec 5).toNat ∧ 7 < (31 : BitVec 5).toNat ∧
      State.reset.txlen.toNat ≤ (0 : BitVec 5).toNat ∧ ({ State.reset with txlen := 20 } : State).txlen.toNat ≤ (20 : BitVec 5).toNat := by
  refine ⟨?_, by decide⟩
  intro o
  cases o
  · exact ⟨0x800001, by decide⟩
  · exact ⟨0x800002, by decide⟩
  · exact ⟨0x800003, by decide⟩
  · exact ⟨0x800004, by decide⟩
  · exact ⟨0x800005, by decide⟩
  · exact ⟨0x800006, by decide⟩
  · exact ⟨0x800007, by decide⟩
  · exact ⟨0x800008, by decide⟩
  · exact ⟨0x800009, by decide⟩
  · exact ⟨0x80000A, by decide⟩
  · exact ⟨0x80000B, by decide⟩
  · exact ⟨0x80000C, by decide⟩
  · exact ⟨0x80000D, by decide⟩
  · exact ⟨0x80000E, by decide⟩
  · exact ⟨0x80000F, by decide⟩
  · exact ⟨0x800010, by decide⟩
  · exact ⟨0x800011, by decide⟩
  · exact ⟨0x800012, by decide⟩
  · exact ⟨0x800013, by decide⟩
  · exact ⟨0x800014, by decide⟩
  · exact ⟨0x800015, by decide⟩
  · exact ⟨0x800016, by decide⟩

/-- One well-formed packet of each row, at the ends of the ranges. -/
theorem witness_DecodeOfEncodeIsTheWirePacket :
    WellFormed (.wireConfig 0xC .loopbackSilent 0x24) = true ∧ WellFormed .wireStatus = true ∧
      WellFormed (.wireDataStdData 8 #v[0xFF, 0x07] [1, 2, 3, 4, 5, 6, 7, 8] 0x55) = true ∧
      WellFormed (.wireDataStdRemote 0 #v[0, 0] [] 0x55) = true ∧
      WellFormed (.wireDataExtData 1 #v[0xFF, 0xFF, 0xFF, 0x1F] [9] 0x55) = true ∧
      WellFormed (.wireDataExtRemote 0 #v[0, 0, 0, 0] [] 0x55) = true := by decide

/-- A well-formed status response that is neither the status packet nor a configuration packet: that of 95_test_vectors.md. -/
theorem witness_DecodeOfEncodeIsTheWirePacket_response :
    let i := Instr.wireStatusResponse #v[4, 0, 3, 5, 0, 0, 0, 0, 0, 0, 0, 0, 0, 0, 0, 0, 0] 0x0C
    WellFormed i = true ∧ encode i ≠ encode .wireStatus ∧ ∀ b m c, encode i ≠ encode (.wireConfig b m c) := by
  refine ⟨by decide, by decide, fun b m c h => ?_⟩
  have h2 := congrArg (fun | .packet bs => bs.getD 2 0 | .command _ => 0) h
  exact absurd h2 (by show (4 : Byte) ≠ 0x12; decide)

theorem witness_BuiltPacketsAreTableRows :
    baudLegal 1 = true ∧ baudLegal 12 = true ∧ frame123.valid = true ∧ frame123.Legal ∧ frameExt.valid = true ∧ frameExt.Legal :=
  ⟨by decide, by decide, rfl, witness_legal_frames.1, rfl, witness_legal_frames.2⟩

theorem witness_StepRunsTheDecodedInstruction :
    (presenting 0x3 State.reset).port = .present (.command 0x3) :: [] ∧ decode (.command 0x3) = .ok .csumRd := by decide

theorem witness_IdleStepHoldsTheState : State.reset.port = [] := by decide

/-- A command, and a wire packet. -/
theorem witness_EveryCommandReturnsAnAllowedCode :
    exec (.rxAppend 1) State.reset = .next (nextOf (exec (.rxAppend 1) State.reset)) ∧ (Instr.rxAppend 1).isCommand = true ∧
      exec .wireStatus State.reset = .next (nextOf (exec .wireStatus State.reset)) ∧ Instr.wireStatus.isCommand = false :=
  ⟨rfl, rfl, rfl, rfl⟩

theorem witness_FailedCommandChangesNothing :
    ∃ t, exec (.frameRdId .txf) State.reset = .next t ∧ t.responses = ⟨.noFrame, 0, 0⟩ :: State.reset.responses ∧
      ResultCode.noFrame ≠ .ok :=
  ⟨_, rfl, rfl, by decide⟩

theorem witness_ResetEventResetsTheBlock : ({ ready [] with port := [.reset] } : State).port = .reset :: [] := rfl

theorem witness_EveryStepKeepsTheInvariant :
    State.reset.Inv ∧ step State.reset = .next State.reset :=
  ⟨witness_reset_invariant, rfl⟩

/-- Two states that differ in an unspecified field only. -/
theorem witness_UnspecifiedFieldsAreNeverObserved :
    ∃ s t : State, s.Inv ∧ t.Inv ∧ s.SameVisible t ∧ s ≠ t := by
  refine ⟨{ State.reset with txf := { frame123 with valid := false } }, { State.reset with txf := { frameExt with valid := false } },
    ⟨?_, ?_, ?_, ?_, ?_, ?_, ?_⟩, ⟨?_, ?_, ?_, ?_, ?_, ?_, ?_⟩, ⟨⟨rfl, ?_⟩, ⟨rfl, fun _ => rfl⟩, rfl, rfl, rfl, rfl⟩, ?_⟩
  all_goals first
    | (intro h; exact absurd h (by decide))
    | (left; rfl)
    | rfl
    | decide
    | (show State.reset.rxlen ≤ 20; decide)

/-- The hypotheses of the clauses, for a command that writes neither register, for valid registers and for `FRAME_WR_BYTE`. -/
theorem witness_FrameRegistersWrittenOnlyByTheirCommands :
    exec .csumClr { withTx with rxf := frameExt } = .next (nextOf (exec .csumClr { withTx with rxf := frameExt })) ∧
      (∀ k r n d b, Instr.csumClr ≠ .frameNew k r n d b) ∧ (∀ sel j b, Instr.csumClr ≠ .frameWrByte sel j b) ∧
      Instr.csumClr ≠ .decodeFrame ∧ (∀ b, Instr.csumClr ≠ .rxPush b) ∧ withTx.txf.valid = true ∧ frameExt.valid = true ∧
      exec (.frameWrByte .txf 7 1) withTx = .next (nextOf (exec (.frameWrByte .txf 7 1) withTx)) := by
  refine ⟨rfl, ?_, ?_, ?_, ?_, rfl, rfl, rfl⟩ <;> intros <;> exact Instr.noConfusion

/-- One instruction for each clause: a command the clause does not name. -/
theorem witness_OtherRegistersWrittenOnlyByTheirCommands :
    exec .rdState State.reset = .next (nextOf (exec .rdState State.reset)) ∧
      Instr.rdState ≠ .csumClr ∧ (∀ b, Instr.rdState ≠ .csumAdd b) ∧ (∀ b m, Instr.rdState ≠ .buildConfig b m) ∧
      Instr.rdState ≠ .buildStatus ∧ (∀ sel, Instr.rdState ≠ .encodeFrame sel) ∧ (∀ b m, Instr.rdState ≠ .openSession b m) ∧
      (∀ sel, Instr.rdState ≠ .send sel) ∧ Instr.rdState ≠ .pollStatus ∧ Instr.rdState ≠ .rxClr ∧
      (∀ b, Instr.rdState ≠ .rxAppend b) ∧ ∀ b, Instr.rdState ≠ .rxPush b := by
  refine ⟨rfl, ?_, ?_, ?_, ?_, ?_, ?_, ?_, ?_, ?_, ?_, ?_⟩ <;> intros <;> exact Instr.noConfusion

/-- One run for each clause. -/
theorem witness_TransportCallsOfACommand :
    exec .csumClr State.reset = .next (nextOf (exec .csumClr State.reset)) ∧
      exec (.openSession 7 .normal) { State.reset with answers := [count 0, count 20] } =
        .next (nextOf (exec (.openSession 7 .normal) { State.reset with answers := [count 0, count 20] })) ∧
      exec (.send .txf) (ready [count 7]) = .next (nextOf (exec (.send .txf) (ready [count 7]))) ∧
      exec .pollStatus (ready [count 20, bytesRead []]) = .next (nextOf (exec .pollStatus (ready [count 20, bytesRead []]))) ∧
      exec .close (ready []) = .next (nextOf (exec .close (ready []))) := ⟨rfl, rfl, rfl, rfl, rfl⟩

/-- A `T_open` that fails, and a partial write of the configuration: the other outcomes of `OPEN` (44_session.md R240). -/
theorem witness_TransportCallsOfACommand_failed :
    (nextOf (exec (.openSession 7 .normal) { State.reset with answers := [failing] })).calls =
        [.tOpen Config.path Config.lineSettings false] ∧
      (nextOf (exec (.openSession 7 .normal) { State.reset with answers := [count 0, count 19] })).calls =
        [.tClose, .tWrite (configPacket 7 .normal) (some 19), .tOpen Config.path Config.lineSettings true] := ⟨rfl, rfl⟩

theorem witness_ChecksumIgnoresTheOrder : List.Perm ([1, 2] : List Byte) [2, 1] := by decide

theorem witness_FrameNewConstructsOrRefuses :
    8 < (9 : BitVec 4).toNat ∧ (8 : BitVec 4).toNat ≤ 8 ∧ idMask .standard < 0x800 ∧ idMask .extended < 0x20000000 ∧
      0x7FF ≤ idMask .standard ∧ 0x1FFFFFFF ≤ idMask .extended := by decide

theorem witness_ConstructionLimits :
    (8 : BitVec 4) ≤ 8 ∧ (0x7FF : BitVec 32) ≤ 0x7FF ∧ (0x1FFFFFFF : BitVec 32) ≤ 0x1FFFFFFF := by decide

theorem witness_FrameReadsReturnTheFields :
    (withTx.frame .txf).valid = true ∧ (withTx.frame .rxf).valid = false ∧ (withTx.frame .txf).Legal :=
  ⟨rfl, rfl, witness_legal_frames.1⟩

theorem witness_FrameWrByteWritesOneByte :
    7 < (8 : BitVec 5).toNat ∧ (7 : BitVec 5).toNat ≤ 7 ∧ (withTx.frame .rxf).valid = false ∧
      (withTx.frame .txf).valid = true := by decide

theorem witness_BuildConfigBuildsThePacket :
    1 ≤ (1 : BitVec 4).toNat ∧ (12 : BitVec 4).toNat ≤ 12 ∧ (0 : BitVec 4).toNat = 0 ∧ 12 < (13 : BitVec 4).toNat := by decide

theorem witness_ConfigChecksumValue : 1 ≤ (12 : BitVec 4).toNat ∧ (12 : BitVec 4).toNat ≤ 12 := by decide

/-- Wrong length, wrong header, wrong checksum, right packet. -/
theorem witness_CheckPktValidatesTheReceiveBuffer :
    (State.reset.loadRx (response14.take 19)).rxlen.toNat ≠ 20 ∧
      (State.reset.loadRx (0xAB :: response14.drop 1)).rxbuf[0] ≠ 0xAA ∧
      ((State.reset.loadRx (response14.take 19 ++ [0x0D])).rxlen.toNat = 20 ∧
        (State.reset.loadRx (response14.take 19 ++ [0x0D])).rxbuf[0] = 0xAA ∧
        (State.reset.loadRx (response14.take 19 ++ [0x0D])).rxbuf[1] = 0x55 ∧
        (State.reset.loadRx (response14.take 19 ++ [0x0D])).rxbuf[19] ≠
          checksum (((State.reset.loadRx (response14.take 19 ++ [0x0D])).rxbuf.toList.drop 2).take 17)) ∧
      (State.reset.loadRx response14).rxlen.toNat = 20 ∧ (State.reset.loadRx response14).rxbuf[0] = 0xAA ∧
      (State.reset.loadRx response14).rxbuf[1] = 0x55 ∧
      (State.reset.loadRx response14).rxbuf[19] = checksum (((State.reset.loadRx response14).rxbuf.toList.drop 2).take 17) := by
  decide

theorem witness_EncodedPacketLayout :
    frameExt.len.toNat ≤ 8 ∧ 3 < (if frameExt.ide = .extended then 4 else 2) ∧ (7 : Fin 8).val < frameExt.len.toNat := by decide

theorem witness_EncodeFillsTheTransmitBuffer :
    (withTx.frame .rxf).valid = false ∧ (withTx.frame .txf).valid = true ∧ (withTx.frame .txf).Legal ∧
      (encodePacket Config.params (withTx.frame .txf)).length ≤ (7 : Fin 20).val :=
  ⟨rfl, rfl, witness_legal_frames.1, by decide⟩

theorem witness_TxRdReturnsTheByte :
    State.reset.txlen.toNat ≤ (0 : BitVec 5).toNat ∧ (19 : BitVec 5).toNat < 20 ∧
      (19 : BitVec 5).toNat < ({ State.reset with txlen := 20 } : State).txlen.toNat := by decide

theorem witness_ReceiveBufferCommands :
    ({ State.reset with rxlen := 20 } : State).rxlen.toNat = 20 ∧ ({ State.reset with rxlen := 19 } : State).rxlen.toNat < 20 := by
  decide

/-- Bytes that are not well framed (none at all), well-framed bytes with an identifier out of range, and the largest identifier. -/
theorem witness_DecodingAByteSequence :
    ¬ WellFramed Config.params [] ∧
      (WellFramed Config.params [0xAA, 0xC0, 0, 8, 0x55] ∧ idMask .standard < idValue .le [0, 8]) ∧
      WellFramed Config.params [0xAA, 0xF0, 0xFF, 0xFF, 0xFF, 0x1F, 0x55, 0] ∧
      idValue .le [0xFF, 0xFF, 0xFF, 0x1F] ≤ idMask .extended := by
  refine ⟨?_, ⟨⟨0xC0, ?_⟩, ?_⟩, ⟨0xF0, ?_⟩, ?_⟩
  · rintro ⟨c, h, _⟩
    exact absurd h (by decide)
  all_goals decide

theorem witness_DecodeFillsTheReceiveFrame :
    decodePacketFrame Config.params (State.reset.loadRx [0xAA, 0xC2, 0x23, 1, 0x11, 0x22, 0x55]).rxBytes = .ok (frame123, 7) ∧
      decodePacketFrame Config.params State.reset.rxBytes = .error .malformedFrame := by decide

theorem witness_DecodeOfEncodedFrameIsTheFrame :
    frameExt.valid = true ∧ frameExt.Legal ∧ (0 : Fin 8).val < frameExt.len.toNat :=
  ⟨rfl, witness_legal_frames.2, by decide⟩

/-- A receive buffer of one byte, and another that agrees with it below `RXLEN` only. -/
theorem witness_ReceiveBytesPastTheLengthAreNotRead :
    (State.reset.loadRx [7]).RxLegal ∧
      ∀ i : Fin 20, i.val < (State.reset.loadRx [7]).rxlen.toNat →
        ((State.reset.loadRx [7]).rxbuf.set 1 9)[i] = (State.reset.loadRx [7]).rxbuf[i] := by
  refine ⟨?_, ?_⟩
  · show (State.reset.loadRx [7]).rxlen ≤ 20
    decide
  · intro i h
    have h0 : i = 0 := by
      apply Fin.ext
      have : (State.reset.loadRx [7]).rxlen.toNat = 1 := by decide
      simp only [Fin.val_zero]
      omega
    subst h0
    decide

theorem witness_PushWhileHunting : State.reset.dfState = .hunt ∧ State.reset.dfN = 0 ∧ (0 : Byte) ≠ 0xAA := by decide

/-- The largest accepted DLC, the smallest refused one, and wrong marker bits. -/
theorem witness_PushControlByte :
    inCtrl.dfState = .ctrl ∧ ((0xC8 : Byte).extractLsb' 6 2 = 3 ∧ ((0xC8 : Byte).extractLsb' 0 4).toNat ≤ 8) ∧
      (8 < ((0xC9 : Byte).extractLsb' 0 4).toNat ∧ (0xC9 : Byte) ≠ 0xAA) ∧
      (0x42 : Byte).extractLsb' 6 2 ≠ 3 ∧ (0x42 : Byte) ≠ 0xAA := by decide

/-- A packet with two bytes and one with four of five. -/
theorem witness_PushBodyByte :
    ((inBody 2).dfState = .body ∧ (inBody 2).DeframerLegal Config.params ∧ (inBody 2).dfN.toNat + 1 < (inBody 2).dfExp.toNat) ∧
      (inBody 4).dfState = .body ∧ (inBody 4).DeframerLegal Config.params ∧
      (inBody 4).dfN.toNat + 1 = (inBody 4).dfExp.toNat ∧ (0 : Byte) ≠ 0x55 ∧ (0 : Byte) ≠ 0xAA := by
  refine ⟨⟨rfl, ?_, by decide⟩, rfl, ?_, by decide⟩
  · refine ⟨?_, ?_, ?_, ?_, ?_⟩ <;> decide
  · refine ⟨?_, ?_, ?_, ?_, ?_⟩ <;> decide

/-- The last clause's second outcome is reached. -/
theorem test_push_body_out_of_range : answer (nextOf (exec (.rxPush 0x55) inBodyOutOfRange)) = some (.identifierOutOfRange, 0, 0) := by
  decide

theorem witness_DeframerReceivesEncodedPackets :
    frameExt.valid = true ∧ frameExt.Legal ∧ State.reset.dfState = .hunt ∧ State.reset.dfN = 0 :=
  ⟨rfl, witness_legal_frames.2, rfl, rfl⟩

theorem witness_OpenOpensAndConfigures :
    (0 : BitVec 4).toNat = 0 ∧ 12 < (13 : BitVec 4).toNat ∧ 1 ≤ (1 : BitVec 4).toNat ∧ (12 : BitVec 4).toNat ≤ 12 ∧
      (ready []).sessState ≠ .closed ∧
      (({ State.reset with answers := [failing] } : State).sessState = .closed ∧
        ({ State.reset with answers := [failing] } : State).draw.err = true) ∧
      ({ State.reset with answers := [count 0, count 20] } : State).sessState = .closed ∧
      ({ State.reset with answers := [count 0, count 20] } : State).draw.err = false := by decide

/-- The two outcomes of the configuration write. -/
theorem witness_OpenOpensAndConfigures_write :
    (if ({ State.reset with answers := [count 0, count 20] } : State).afterDraw.draw.err then none else
        some (min ({ State.reset with answers := [count 0, count 20] } : State).afterDraw.draw.count 20)) = some 20 ∧
      (if ({ State.reset with answers := [count 0, count 19] } : State).afterDraw.draw.err then none else
        some (min ({ State.reset with answers := [count 0, count 19] } : State).afterDraw.draw.count 20)) ≠ some 20 := by decide

theorem witness_SendWritesTheFrame :
    State.reset.sessState ≠ .ready ∧ ((ready [count 7]).sessState = .ready ∧ ((ready [count 7]).frame .rxf).valid = false) ∧
      ((ready [count 7]).frame .txf).valid = true ∧ ((ready [count 7]).frame .txf).Legal ∧ (ready [failing]).draw.err = true ∧
      (ready [count 7]).draw.err = false :=
  ⟨by decide, by decide, rfl, witness_legal_frames.1, by decide, by decide⟩

/-- Each clause at its boundary: counts 19 and 20, 19 bytes, wrong header bytes, wrong checksum. -/
theorem witness_PollFailuresKeepTheCounters :
    State.reset.sessState ≠ .ready ∧ ((ready [failing]).sessState = .ready ∧ (ready [failing]).draw.err = true) ∧
      ((ready [count 19]).draw.err = false ∧ (ready [count 19]).draw.count < 20) ∧
      ((ready [count 20, failing]).draw.err = false ∧ 20 ≤ (ready [count 20, failing]).draw.count ∧
        (ready [count 20, failing]).afterDraw.draw.err = true) ∧
      (ready [count 20, bytesRead (response14.take 19)]).afterDraw.readAnswer 20 = some (response14.take 19) ∧
      (response14.take 19).length < 20 ∧
      (ready [count 20, bytesRead (0xAB :: response14.drop 1)]).afterDraw.readAnswer 20 = some (0xAB :: response14.drop 1) ∧
      (0xAB :: response14.drop 1)[0]? ≠ some 0xAA ∧ (0xAA :: 0x54 :: response14.drop 2)[1]? ≠ some 0x55 ∧
      (response14.take 19 ++ [0x0D])[19]? ≠ some (checksum (((response14.take 19 ++ [0x0D]).drop 2).take 17)) := by decide

theorem witness_PollTakesAValidResponse :
    (ready [count 20, bytesRead response14]).sessState = .ready ∧ (ready [count 20, bytesRead response14]).draw.err = false ∧
      20 ≤ (ready [count 20, bytesRead response14]).draw.count ∧
      (ready [count 20, bytesRead response14]).afterDraw.readAnswer 20 = some response14 ∧ response14.length = 20 ∧
      response14[0]? = some 0xAA ∧ response14[1]? = some 0x55 ∧
      response14[19]? = some (checksum ((response14.drop 2).take 17)) := by decide

theorem witness_CloseReleasesTheTransport : (ready []).tportOpen = true ∧ State.reset.tportOpen = false := by decide

/-- An `OPEN` that succeeds. -/
theorem witness_RdStateReturnsTheView :
    ∃ t, exec (.openSession 7 .normal) { State.reset with answers := [count 0, count 20] } = .next t ∧
      t.lastResponse = some ⟨.ok, 20, 0⟩ := ⟨_, rfl, rfl⟩

/-- One run for each clause; for the last, a codec command. -/
theorem witness_SessionStateMachine :
    exec .close (ready []) = .next (nextOf (exec .close (ready []))) ∧
      exec (.openSession 7 .normal) State.reset = .next (nextOf (exec (.openSession 7 .normal) State.reset)) ∧
      State.reset.sessState = .closed ∧
      exec (.openSession 7 .normal) (ready []) = .next (nextOf (exec (.openSession 7 .normal) (ready []))) ∧
      (ready []).sessState = .ready ∧
      exec .pollStatus State.reset = .next (nextOf (exec .pollStatus State.reset)) ∧
      exec .csumRd State.reset = .next (nextOf (exec .csumRd State.reset)) := by
  refine ⟨rfl, ?_, rfl, rfl, rfl, rfl, rfl⟩
  cases h : exec (.openSession 7 .normal) State.reset with
  | next t => rfl
  | fault r => exact nomatch r
  | refused r =>
    exfalso
    simp only [exec, execOpen, configureSession, State.raise_eq, State.succeed_eq] at h
    repeat' split at h
    all_goals cases h

theorem witness_ArrivedStatusResponseIsPolled :
    (ready [count 20, count 20]).sessState = .ready ∧ (ready [count 20, count 20]).unread = [] ∧
      (ready [count 20, count 20]).answers = count 20 :: count 20 :: [] ∧ (count 20).err = false ∧ 20 ≤ (count 20).count ∧
      (count 20).lost = 0 ∧
      WellFormed (.wireStatusResponse #v[4, 0, 3, 5, 0, 0, 0, 0, 0, 0, 0, 0, 0, 0, 0, 0, 0] 0x0C) = true := by decide

theorem witness_ResponseOffsetsAreLegalAndFree :
    (3 ≤ 3 ∧ 3 ≤ 18) ∧ (3 ≤ 18 ∧ 18 ≤ 18) ∧ (3 ≤ 4 ∧ 4 ≤ 18) ∧ 3 ≠ 18 ∧ 3 ≠ 4 ∧ 18 ≠ 4 := by decide

/-- A count and some bytes answered, and the largest a call may be given. -/
theorem witness_TransportAnswersAreAllAndOnlyTheLegalOnes :
    (ready [count 7]).writeAnswer [1, 2, 3] = some 3 ∧ (ready [bytesRead [1, 2]]).readAnswer 20 = some [1, 2] ∧
      (∀ n, (some 3 : Option Nat) = some n → n ≤ ([1, 2, 3] : List Byte).length) ∧
      (∀ d, (some [1, 2] : Option (List Byte)) = some d → d.length ≤ 2) ∧ (ready [bytesRead [1, 2]]).draw.lost = 0 := by
  refine ⟨by decide, by decide, ?_, ?_, by decide⟩
  · rintro n ⟨⟩; decide
  · rintro d ⟨⟩; decide

end Sys2Proof.Tests
end

section
/-! Proofs: scope (00_scope.md): what a failing command leaves unchanged (R14), and the response offsets (R9). -/

namespace Sys2Proof.Machine

/-! ### A failing command changes nothing -/

/-- Where the outcome `o` of a command in `s` answers a code other than OK, it is `s` with that response added
(00_scope.md R14). -/
def FailureKeeps (s : State) (o : Result) : Prop :=
  ∀ t r, o = .next t → t.responses = r :: s.responses → r.res ≠ .ok → t = { s with responses := r :: s.responses }

theorem failureKeeps_raise (s : State) (e : ResultCode) : FailureKeeps s (s.raise e) := by
  rintro t r ⟨⟩ hr -
  obtain ⟨rfl, -⟩ := List.cons.inj hr
  rfl

/-- What a command wrote before it succeeded does not matter. -/
theorem failureKeeps_succeed (s u : State) (v : BitVec 32) (d : BitVec 64) : FailureKeeps s (u.succeed v d) := by
  rintro t r ⟨⟩ hr hne
  obtain ⟨rfl, -⟩ := List.cons.inj hr
  exact absurd rfl hne

theorem failureKeeps_withFrame {s : State} {k : FrameReg → Result} (h : ∀ f, FailureKeeps s (k f)) (sel : FrameSel) :
    FailureKeeps s (withFrame s sel k) := by
  cases hv : (s.frame sel).valid with
  | true => rw [withFrame_valid hv]; exact h _
  | false => rw [withFrame_invalid hv]; exact failureKeeps_raise s _

theorem failureKeeps_ite {s : State} {c : Prop} [Decidable c] {o₁ o₂ : Result} (h₁ : FailureKeeps s o₁)
    (h₂ : FailureKeeps s o₂) : FailureKeeps s (if c then o₁ else o₂) := by
  split <;> assumption

/-- A packet that arrives gets no response at all. -/
theorem failureKeeps_receivePacket (i : Instr) (s : State) : FailureKeeps s (receivePacket i s) := by
  rintro t r ⟨⟩ hr -
  exact absurd hr.symm (List.cons_ne_self r s.responses)

theorem failureKeeps_decodeWith (P : Params) (s : State) : FailureKeeps s (decodeWith P s) := by
  unfold decodeWith
  split
  · exact failureKeeps_raise s _
  · exact failureKeeps_succeed s _ _ _

/-- Settles O14: each command raises its errors before its first write, or is one of R14's four exceptions. -/
theorem failedCommandChangesNothing : Obligations.FailedCommandChangesNothing := by
  intro i s t r hexec hresp hres hopen hsend hpoll hpush
  suffices h : FailureKeeps s (exec i s) from h t r hexec hresp hres
  have hraise := failureKeeps_raise s
  have hsucceed := failureKeeps_succeed s
  cases i with
  | csumClr | csumAdd | csumRd | buildStatus | rxClr | close | rdState => exact hsucceed _ _ _
  | frameNew => exact failureKeeps_ite (hraise _) (failureKeeps_ite (hraise _) (hsucceed _ _ _))
  | frameRdId sel | frameRdMeta sel | frameRdData sel | encodeFrame sel =>
    exact failureKeeps_withFrame (fun _ => hsucceed _ _ _) sel
  | frameWrByte sel => exact failureKeeps_ite (hraise _) (failureKeeps_withFrame (fun _ => hsucceed _ _ _) sel)
  | buildConfig | checkPkt => exact failureKeeps_ite (hsucceed _ _ _) (hraise _)
  | txRd | rxAppend => exact failureKeeps_ite (hraise _) (hsucceed _ _ _)
  | decodeFrame => exact failureKeeps_decodeWith Config.params s
  | rxPush b => exact absurd rfl (hpush b)
  | openSession b m => exact absurd rfl (hopen b m)
  | send sel => exact absurd rfl (hsend sel)
  | pollStatus => exact absurd rfl hpoll
  | wireConfig | wireStatus | wireStatusResponse | wireDataStdData | wireDataStdRemote | wireDataExtData | wireDataExtRemote =>
    exact failureKeeps_receivePacket _ s

end Sys2Proof.Machine

namespace Sys2Proof

/-! ### The response offsets -/

/-- The number `c` of a range counted with `x` left out: the next one from `x` on. -/
def Config.skip (x c : Nat) : Nat := if c < x then c else c + 1

theorem Config.skip_of_lt {x c : Nat} (h : c < x) : skip x c = c := if_pos h

theorem Config.skip_of_ge {x c : Nat} (h : x ≤ c) : skip x c = c + 1 := if_neg (Nat.not_lt.mpr h)

theorem Config.skip_spec (x c : Nat) : skip x c ≠ x ∧ c ≤ skip x c ∧ skip x c ≤ c + 1 := by
  unfold skip
  split <;> omega

/-- Every number of `lo..hi+1` but `x` is one of `lo..hi` with `x` skipped. -/
theorem Config.exists_skip {lo hi x y : Nat} (hx : lo ≤ x ∧ x ≤ hi + 1) (hy : lo ≤ y ∧ y ≤ hi + 1) (hne : y ≠ x) :
    ∃ c, (lo ≤ c ∧ c ≤ hi) ∧ skip x c = y := by
  obtain hlt | hgt := Nat.lt_or_gt_of_ne hne
  · exact ⟨y, by omega, skip_of_lt hlt⟩
  · refine ⟨y - 1, by omega, ?_⟩
    rw [skip_of_ge (by omega)]
    omega

theorem Config.pickOther_eq (a x : Nat) : pickOther a x = skip x (3 + a % 15) := rfl

theorem Config.pickThird_eq (a x y : Nat) : pickThird a x y = skip (max x y) (skip (min x y) (3 + a % 14)) := rfl

theorem Config.pick_bounds (a : Nat) : 3 ≤ pick a ∧ pick a ≤ 18 := by
  unfold pick
  omega

theorem Config.pickOther_spec (a x : Nat) : 3 ≤ pickOther a x ∧ pickOther a x ≤ 18 ∧ pickOther a x ≠ x := by
  have hskip := skip_spec x (3 + a % 15)
  rw [pickOther_eq]
  omega

/-- At the second skip a number below the larger one stays, so it is still not the smaller one; any other ends above both. -/
theorem Config.pickThird_spec (a x y : Nat) :
    3 ≤ pickThird a x y ∧ pickThird a x y ≤ 18 ∧ pickThird a x y ≠ x ∧ pickThird a x y ≠ y := by
  have hlo := skip_spec (min x y) (3 + a % 14)
  have hhi := skip_spec (max x y) (skip (min x y) (3 + a % 14))
  rw [pickThird_eq]
  obtain hlt | hge := Nat.lt_or_ge (skip (min x y) (3 + a % 14)) (max x y)
  · rw [skip_of_lt hlt] at hhi ⊢
    omega
  · rw [skip_of_ge hge] at hhi ⊢
    omega

theorem Config.exists_pick {x : Nat} (hx : 3 ≤ x ∧ x ≤ 18) : ∃ a, pick a = x := by
  refine ⟨x - 3, ?_⟩
  unfold pick
  omega

theorem Config.exists_pickOther {x y : Nat} (hx : 3 ≤ x ∧ x ≤ 18) (hy : 3 ≤ y ∧ y ≤ 18) (hxy : x ≠ y) :
    ∃ a, pickOther a x = y := by
  obtain ⟨c, hc, rfl⟩ := exists_skip (hi := 17) hx hy hxy.symm
  refine ⟨c - 3, ?_⟩
  rw [pickOther_eq, show 3 + (c - 3) % 15 = c by omega]

/-- The larger number is skipped last: what comes before is not the smaller one, which that skip would have kept. -/
theorem Config.exists_pickThird {x y z : Nat} (hx : 3 ≤ x ∧ x ≤ 18) (hy : 3 ≤ y ∧ y ≤ 18) (hz : 3 ≤ z ∧ z ≤ 18)
    (hxy : x ≠ y) (hxz : x ≠ z) (hyz : y ≠ z) : ∃ a, pickThird a x y = z := by
  obtain ⟨c, hc, rfl⟩ := exists_skip (hi := 17) (x := max x y) (by omega) hz (by omega)
  have hmin : skip (max x y) (min x y) = min x y := skip_of_lt (by omega)
  have hne : c ≠ min x y := by
    rintro rfl
    omega
  obtain ⟨d, hd, rfl⟩ := exists_skip (hi := 16) (x := min x y) (by omega) hc hne
  refine ⟨d - 3, ?_⟩
  rw [pickThird_eq, show 3 + (d - 3) % 14 = d by omega]

theorem Config.params_offsetsLegal : Config.params.OffsetsLegal := by
  have hflags := pick_bounds flagsOffDraw
  obtain ⟨hrx3, hrx18, hrx⟩ := pickOther_spec rxErrOffDraw flagsOff
  obtain ⟨htx3, htx18, htxFlags, htxRx⟩ := pickThird_spec txErrOffDraw flagsOff rxErrOff
  exact ⟨hflags, ⟨hrx3, hrx18⟩, ⟨htx3, htx18⟩, hrx.symm, htxFlags.symm, htxRx.symm⟩

/-- Settles O59: the picks stay in range and apart, and each legal number is picked from its place among those left. -/
theorem responseOffsetsAreLegalAndFree : Obligations.ResponseOffsetsAreLegalAndFree := by
  refine ⟨Config.params_offsetsLegal, fun x y z hx hy hz hxy hxz hyz => ?_⟩
  obtain ⟨a, ha⟩ := Config.exists_pick hx
  obtain ⟨b, hb⟩ := Config.exists_pickOther hx hy hxy
  obtain ⟨c, hc⟩ := Config.exists_pickThird hx hy hz hxy hxz hyz
  exact ⟨a, b, c, ha, hb, hc⟩

end Sys2Proof
end

section
/-! Proofs: the state (10_state.md): its values after reset (R60), the invariant of the block (R35, R42 to R51), which commands write
what (R38 to R53), and that what reset leaves unspecified is never observed. -/

namespace Sys2Proof.Machine

/-! ### A step, by what is presented -/

theorem step_idle {s : State} (h : s.port = []) : step s = .next s := by
  simp [step, State.takeEvent, h]

theorem step_reset {s : State} {es : List PortEvent} (h : s.port = .reset :: es) :
    step s = .next ({ s with port := es } : State).resetBlock := by
  simp [step, State.takeEvent, h]

theorem step_instr {s : State} {es : List PortEvent} {img : Image} {i : Instr} (h : s.port = .present img :: es)
    (hi : decode img = .ok i) : step s = exec i { s with port := es } := by
  simp [step, State.takeEvent, h, hi]

theorem step_undecodable {s : State} {es : List PortEvent} {img : Image} {e : DecodeError} (h : s.port = .present img :: es)
    (he : decode img = .error e) : step s = ({ s with port := es } : State).takeUndecodable img := by
  simp [step, State.takeEvent, h, he]

/-! ### What holds of the state a command ends in -/

/-- The outcome `o` is a next state, and `p` holds of it. -/
def Ends (p : State → Prop) (o : Result) : Prop := ∃ t, o = .next t ∧ p t

@[simp] theorem ends_next {p : State → Prop} {t : State} : Ends p (.next t) ↔ p t := by
  simp [Ends]

theorem Ends.of_next {p : State → Prop} {o : Result} {t : State} (h : Ends p o) (ho : o = .next t) : p t := by
  obtain ⟨_, rfl, hp⟩ := h
  cases ho
  exact hp

theorem ends_ite {p : State → Prop} {c : Prop} [Decidable c] {o₁ o₂ : Result} (h₁ : c → Ends p o₁) (h₂ : ¬c → Ends p o₂) :
    Ends p (if c then o₁ else o₂) := by
  split
  · exact h₁ ‹_›
  · exact h₂ ‹_›

theorem ends_withFrame {p : State → Prop} {s : State} {sel : FrameSel} {k : FrameReg → Result}
    (hnone : Ends p (s.raise .noFrame)) (hk : ∀ f, f = s.frame sel → f.valid = true → Ends p (k f)) :
    Ends p (withFrame s sel k) := by
  cases hv : (s.frame sel).valid with
  | true => rw [withFrame_valid hv]; exact hk _ rfl hv
  | false => rw [withFrame_invalid hv]; exact hnone

/-! ### After reset -/

theorem afterReset_inv (seed : Nat) : (State.afterReset seed).Inv where
  txf := fun h => Bool.noConfusion h
  rxf := fun h => Bool.noConfusion h
  tx := .inl rfl
  rx := by simp [State.RxLegal, State.afterReset]
  deframer := rfl
  session := by simp [State.SessionLegal, State.afterReset]

theorem resetBlock_inv (s : State) : s.resetBlock.Inv := { afterReset_inv s.draws with }

/-- Settles O15. -/
theorem resetValues : Obligations.ResetValues :=
  ⟨rfl, rfl, rfl, rfl, rfl, rfl, rfl, rfl, rfl, rfl, rfl, rfl, rfl⟩

/-- Settles O17: a reset frame register holds no frame, and the rest of the invariant is about fields that R60 fixes. -/
theorem invariantHoldsAtReset : Obligations.InvariantHoldsAtReset := afterReset_inv 0

/-! ### The invariant: frames and buffers -/

theorem inv_respond {s : State} (hs : s.Inv) (r : Response) : Ends State.Inv (s.respond r) := ⟨_, rfl, { hs with }⟩

theorem inv_raise {s : State} (hs : s.Inv) (e : ResultCode) : Ends State.Inv (s.raise e) := inv_respond hs _

theorem inv_succeed {s : State} (hs : s.Inv) (v : BitVec 32) (d : BitVec 64) : Ends State.Inv (s.succeed v d) :=
  inv_respond hs _

theorem State.Inv.frame {s : State} (hs : s.Inv) (sel : FrameSel) : (s.frame sel).Legal := by
  cases sel
  · exact hs.txf
  · exact hs.rxf

theorem State.Inv.setFrame {s : State} (hs : s.Inv) (sel : FrameSel) {f : FrameReg} (hf : f.Legal) : (s.setFrame sel f).Inv := by
  cases sel
  · exact { hs with txf := hf }
  · exact { hs with rxf := hf }

/-- The lengths of the packets the block builds are those of R42. -/
theorem State.Inv.loadTx {s : State} (hs : s.Inv) {p : List Byte} (hp : (5 ≤ p.length ∧ p.length ≤ 15) ∨ p.length = 20) :
    (s.loadTx p).Inv :=
  { hs with
    tx := .inr (by
      have hn : (BitVec.ofNat 5 p.length).toNat = p.length := by rw [BitVec.toNat_ofNat]; omega
      simpa [BitVec.le_def, ← BitVec.toNat_inj, hn] using hp) }

theorem encodePacket_length_bounds {f : FrameReg} (hf : f.Legal) (hv : f.valid = true) (P : Params) :
    5 ≤ (encodePacket P f).length ∧ (encodePacket P f).length ≤ 15 := by
  have hlen : f.len.toNat ≤ 8 := (hf hv).1
  have hw := idWidth_bounds f.ide
  rw [encodePacket_length P f (hf hv).1]
  omega

theorem State.Inv.loadTx_encodePacket {s : State} (hs : s.Inv) {f : FrameReg} (hf : f.Legal) (hv : f.valid = true)
    (P : Params) : (s.loadTx (encodePacket P f)).Inv :=
  hs.loadTx (.inl (encodePacket_length_bounds hf hv P))

theorem State.Inv.loadRx {s : State} (hs : s.Inv) {d : List Byte} (hd : d.length ≤ 20) : (s.loadRx d).Inv :=
  { hs with
    rx := by
      have hn : (BitVec.ofNat 5 d.length).toNat = d.length := by rw [BitVec.toNat_ofNat]; omega
      simpa [State.RxLegal, BitVec.le_def, hn] using hd }

theorem dlc_le_of_controlBad {P : Params} {c : Byte} (h : controlBad P c = false) : dlcOfControl c ≤ 8 := by
  simp only [controlBad, Bool.or_eq_false_iff, decide_eq_false_iff_not, BitVec.not_lt] at h
  exact h.2

/-- The checks a packet has passed when its frame is given (43_data_frame.md R212). -/
theorem decodePacketFrame_ok {P : Params} {bs : List Byte} {f : FrameReg} {n : Nat}
    (h : decodePacketFrame P bs = .ok (f, n)) : f.valid = true ∧ f.len ≤ 8 ∧ f.id ≤ idMask f.ide := by
  unfold decodePacketFrame at h
  split at h
  case h_2 => cases h
  case h_1 b c rest =>
    dsimp only at h
    split at h; · cases h
    split at h; · cases h
    split at h; · cases h
    split at h; · cases h
    split at h; · cases h
    rename_i hbad _ _ hid
    cases h
    exact ⟨rfl, dlc_le_of_controlBad (by simpa using hbad), BitVec.not_lt.mp hid⟩

theorem decodePacketFrame_legal {P : Params} {bs : List Byte} {f : FrameReg} {n : Nat}
    (h : decodePacketFrame P bs = .ok (f, n)) : f.Legal := fun _ => (decodePacketFrame_ok h).2

theorem execFrameNew_inv {s : State} (hs : s.Inv) (k : IdKind) (r : FrameKind) (n : BitVec 4) (id : BitVec 32)
    (d : BitVec 64) : Ends State.Inv (execFrameNew k r n id d s) :=
  ends_ite (fun _ => inv_raise hs _) fun hlen => ends_ite (fun _ => inv_raise hs _) fun hid =>
    ⟨_, rfl, { hs with txf := fun _ => ⟨BitVec.not_lt.mp hlen, BitVec.not_lt.mp hid⟩ }⟩

theorem execRxAppend_inv {s : State} (hs : s.Inv) (b : Byte) : Ends State.Inv (execRxAppend b s) := by
  refine ends_ite (fun _ => inv_raise hs _) fun hfull => ⟨_, rfl, { hs with rx := ?_ }⟩
  have hrx : s.rxlen ≤ 20 := hs.rx
  show s.rxlen + 1 ≤ 20
  bv_omega

theorem decodeWith_inv {s : State} (hs : s.Inv) (P : Params) : Ends State.Inv (decodeWith P s) := by
  unfold decodeWith
  split
  next => exact inv_raise hs _
  next f n hok => exact ⟨_, rfl, { hs with rxf := decodePacketFrame_legal hok }⟩

/-! ### The invariant: the deframer (R45) -/

/-- The state with the deframer's position forgotten, which the deframer goes back to. -/
def State.hunting (s : State) : State := { s with dfState := .hunt, dfN := 0 }

theorem State.Inv.hunting {s : State} (hs : s.Inv) (v : Vector Byte 15) (n : BitVec 4) :
    ({ s with dfBuf := v, dfN := n } : State).hunting.Inv := { hs with deframer := rfl }

theorem startPacket_inv {s : State} (hs : s.Inv) : (s.startPacket startMarker).Inv :=
  { hs with deframer := ⟨rfl, by simp⟩ }

theorem restart_inv {s : State} (hs : s.hunting.Inv) (b : Byte) : (s.restart b).Inv := by
  unfold State.restart
  split
  next hb => subst hb; exact startPacket_inv hs
  next => exact hs

theorem pushHunt_inv {s : State} (hs : s.Inv) (b : Byte) : Ends State.Inv (pushHunt b s) := by
  refine inv_respond ?_ _
  split
  next hb => subst hb; exact startPacket_inv hs
  next => exact hs

theorem packetLength_bounds {c : Byte} (hc : dlcOfControl c ≤ 8) : 5 ≤ packetLength c ∧ packetLength c ≤ 15 := by
  have hw := idWidth_bounds (kindOfControl c)
  have hdlc : (dlcOfControl c).toNat ≤ 8 := hc
  unfold packetLength
  omega

theorem pushCtrl_inv {s : State} (hs : s.Inv) (hctrl : s.dfState = .ctrl) (b : Byte) :
    Ends State.Inv (pushCtrl Config.params b s) := by
  have hd := hs.deframer
  simp only [State.DeframerLegal, hctrl] at hd
  obtain ⟨-, hstart⟩ := hd
  refine ends_ite (fun _ => inv_raise (restart_inv (hs.hunting s.dfBuf s.dfN) b) _) fun hgood => ?_
  have hgood : controlBad Config.params b = false := by simpa using hgood
  have hlen := packetLength_bounds (dlc_le_of_controlBad hgood)
  have hexp : (BitVec.ofNat 4 (packetLength b)).toNat = packetLength b := by rw [BitVec.toNat_ofNat]; omega
  refine ⟨_, rfl, { hs with deframer := show _ ∧ _ from ⟨le_refl 2, ?_, ?_, ?_, ?_⟩ }⟩
  · show 2 < (BitVec.ofNat 4 (packetLength b)).toNat
    omega
  · simpa using hstart
  · simpa using hgood
  · simpa using hexp

theorem pushBody_inv {s : State} (hs : s.Inv) (hbody : s.dfState = .body) (b : Byte) :
    Ends State.Inv (pushBody Config.params b s) := by
  have hd := hs.deframer
  simp only [State.DeframerLegal, hbody] at hd
  obtain ⟨hn2, hnexp, hstart, hgood, hexp⟩ := hd
  have hidle := hs.hunting (s.dfBuf.setIfInBounds s.dfN.toNat b) (s.dfN + 1)
  refine ends_ite (fun hmore => ⟨_, rfl, { hs with deframer := ?_ }⟩) fun _ =>
    ends_ite (fun _ => inv_raise (restart_inv hidle b) _) fun _ => ?_
  · have hne0 : s.dfN.toNat ≠ 0 := by bv_omega
    have hne1 : s.dfN.toNat ≠ 1 := by bv_omega
    have hn2' : 2 ≤ s.dfN + 1 := by bv_omega
    simpa [State.DeframerLegal, hbody, Vector.getElem_setIfInBounds, hne0, hne1, hstart, hgood, hexp] using
      And.intro hn2' hmore
  · split
    next => exact inv_raise hidle _
    next f n hok => exact ⟨_, rfl, { hidle with rxf := decodePacketFrame_legal hok }⟩

theorem execRxPush_inv {s : State} (hs : s.Inv) (b : Byte) : Ends State.Inv (execRxPush b s) := by
  unfold execRxPush pushWith
  split
  next => exact pushHunt_inv hs b
  next hctrl => exact pushCtrl_inv hs hctrl b
  next hbody => exact pushBody_inv hs hbody b

/-! ### The invariant: the session (R50, R51) -/

theorem State.Inv.afterWrite {s : State} (hs : s.Inv) (p : List Byte) : (s.afterWrite p).Inv := by
  rw [State.afterWrite_eq]
  exact { hs with }

theorem State.Inv.afterRead {s : State} (hs : s.Inv) (n : Nat) : (s.afterRead n).Inv := by
  rw [State.afterRead_eq]
  exact { hs with }

/-- The state with the session closed: while `OPEN` runs, the invariant holds of it and not yet of the state itself. -/
def State.closedSession (s : State) : State := { s with tportOpen := false, sessState := .closed }

theorem State.Inv.closedSession {s : State} (hs : s.Inv) : s.closedSession.Inv :=
  { hs with session := by simp [State.SessionLegal, State.closedSession] }

theorem State.Inv.loadTx_closedSession {s : State} (hs : s.closedSession.Inv) {p : List Byte}
    (hp : (5 ≤ p.length ∧ p.length ≤ 15) ∨ p.length = 20) : (s.loadTx p).closedSession.Inv := hs.loadTx hp

theorem State.Inv.afterWrite_closedSession {s : State} (hs : s.closedSession.Inv) (p : List Byte) :
    (s.afterWrite p).closedSession.Inv := by
  rw [State.afterWrite_eq]
  exact { hs with }

/-- What a failed `OPEN` leaves (44_session.md R240). -/
theorem State.Inv.aborted {s : State} (hs : s.closedSession.Inv) :
    ({ s.afterClose with tportOpen := false, sessState := .closed } : State).Inv := { hs with }

theorem State.Inv.opened {s : State} (hs : s.closedSession.Inv) (hopen : s.tportOpen = true) :
    ({ s with sessState := .ready } : State).Inv :=
  { hs with session := by simp [State.SessionLegal, hopen] }

theorem configureSession_inv {s : State} (hs : s.closedSession.Inv) (baud : BitVec 4) (mode : OpMode) :
    Ends State.Inv (configureSession baud mode s) := by
  have hcleared : ({ s with tportOpen := true, rxErr := 0, txErr := 0, statusFlags := 0 } : State).closedSession.Inv :=
    { hs with }
  have hw := (hcleared.loadTx_closedSession (.inr (configPacket_length baud mode))).afterWrite_closedSession
  unfold configureSession
  dsimp only
  split
  next => exact inv_raise (hw _).aborted _
  next => exact ends_ite (fun _ => inv_raise (hw _).aborted _) fun _ => inv_succeed ((hw _).opened (by simp)) _ _

theorem execOpen_inv {s : State} (hs : s.Inv) (baud : BitVec 4) (mode : OpMode) :
    Ends State.Inv (execOpen baud mode s) := by
  refine ends_ite (fun _ => inv_raise hs _) fun _ => ends_ite (fun _ => inv_raise hs _) fun hclosed =>
    ends_ite (fun _ => configureSession_inv ?_ baud mode) fun _ => ⟨_, rfl, ?_⟩
  · rw [State.afterOpen_eq]
    exact { hs.closedSession with }
  · obtain ⟨-, htport⟩ := hs.session
    rw [State.afterOpen_eq]
    exact { hs with session := by simpa [State.SessionLegal, not_not.mp hclosed] using htport }

theorem sendWith_inv {s : State} (hs : s.Inv) (P : Params) (sel : FrameSel) : Ends State.Inv (sendWith P sel s) := by
  refine ends_ite (fun _ => inv_raise hs _) fun _ => ends_withFrame (inv_raise hs _) fun f hf hv => ?_
  have hw := (hs.loadTx_encodePacket (hf ▸ hs.frame sel) hv P).afterWrite
  dsimp only
  split
  next => exact inv_raise (hw _) _
  next => exact inv_succeed (hw _) _ _

theorem takeStatus_inv {s : State} (hs : s.Inv) (P : Params) {d : List Byte} (hd : d.length ≤ 20) :
    Ends State.Inv (takeStatus P d s) := by
  have ht := hs.loadRx hd
  exact ends_ite (fun _ => inv_raise ht _) fun _ => ends_ite (fun _ => inv_raise ht _) fun _ => ⟨_, rfl, { ht with }⟩

theorem readAnswer_length {s : State} {n : Nat} {d : List Byte} (h : s.readAnswer n = some d) : d.length ≤ n := by
  obtain ⟨-, hread⟩ | ⟨-, hread⟩ := s.readAnswer_cases n
  · simp [hread] at h
  · obtain rfl : s.available.take (min s.draw.count n) = d := by simpa [hread] using h
    rw [List.length_take]
    omega

theorem pollWith_inv {s : State} (hs : s.Inv) (P : Params) : Ends State.Inv (pollWith P s) := by
  refine ends_ite (fun _ => inv_raise hs _) fun _ => ?_
  have hw := (hs.loadTx (.inr statusPacket_length)).afterWrite
  dsimp only
  split
  next => exact inv_raise (hw _) _
  next =>
    refine ends_ite (fun _ => inv_raise (hw _) _) fun _ => ?_
    split
    next => exact inv_raise ((hw _).afterRead 20) _
    next d hread => exact takeStatus_inv ((hw _).afterRead 20) P (readAnswer_length hread)

theorem execClose_inv {s : State} (hs : s.Inv) : Ends State.Inv (execClose s) := by
  refine inv_succeed ?_ _ _
  split
  next => exact { hs.closedSession with }
  next hopen => exact { hs with session := by simp [State.SessionLegal, hopen] }

/-! ### Every step keeps the invariant -/

theorem exec_inv {s : State} (hs : s.Inv) (i : Instr) : Ends State.Inv (exec i s) := by
  have hraise := inv_raise hs
  have hsucceed := inv_succeed hs
  cases i with
  | csumClr | csumAdd => exact ⟨_, rfl, { hs with }⟩
  | csumRd | rdState => exact hsucceed _ _
  | frameNew => exact execFrameNew_inv hs _ _ _ _ _
  | frameRdId | frameRdMeta => exact ends_withFrame (hraise _) fun _ _ _ => hsucceed _ _
  | frameRdData => exact ends_withFrame (hraise _) fun f _ _ => hsucceed _ (packData f.data)
  | frameWrByte sel =>
    refine ends_ite (fun _ => hraise _) fun _ => ends_withFrame (hraise _) fun f hf _ => inv_succeed (hs.setFrame sel ?_) _ _
    exact (hf ▸ hs.frame sel : f.Legal)
  | buildConfig => exact ends_ite (fun _ => inv_succeed (hs.loadTx (.inr (configPacket_length _ _))) _ _) fun _ => hraise _
  | buildStatus => exact inv_succeed (hs.loadTx (.inr statusPacket_length)) _ _
  | encodeFrame sel =>
    exact ends_withFrame (hraise _) fun f hf hv => inv_succeed (hs.loadTx_encodePacket (hf ▸ hs.frame sel) hv _) _ _
  | txRd => exact ends_ite (fun _ => hraise _) fun _ => hsucceed _ _
  | rxClr => exact ⟨_, rfl, { hs with rx := by simp [State.RxLegal] }⟩
  | rxAppend b => exact execRxAppend_inv hs b
  | decodeFrame => exact decodeWith_inv hs _
  | checkPkt => exact ends_ite (fun _ => hsucceed _ _) fun _ => hraise _
  | rxPush b => exact execRxPush_inv hs b
  | openSession baud mode => exact execOpen_inv hs baud mode
  | send sel => exact sendWith_inv hs _ sel
  | pollStatus => exact pollWith_inv hs _
  | close => exact execClose_inv hs
  | wireConfig | wireStatus | wireStatusResponse | wireDataStdData | wireDataStdRemote | wireDataExtData | wireDataExtRemote =>
    exact ⟨_, rfl, { hs with }⟩

theorem takeUndecodable_inv {s : State} (hs : s.Inv) (img : Image) : Ends State.Inv (s.takeUndecodable img) := by
  cases img
  · exact inv_raise hs _
  · exact ⟨_, rfl, { hs with }⟩

theorem step_inv {s : State} (hs : s.Inv) : Ends State.Inv (step s) := by
  cases hport : s.port with
  | nil => exact ⟨s, step_idle hport, hs⟩
  | cons e es =>
    have htaken : ({ s with port := es } : State).Inv := { hs with }
    cases e with
    | reset => exact ⟨_, step_reset hport, resetBlock_inv _⟩
    | present img =>
      cases hdecode : decode img with
      | ok i => rw [step_instr hport hdecode]; exact exec_inv htaken i
      | error e => rw [step_undecodable hport hdecode]; exact takeUndecodable_inv htaken img

/-- Settles O18: a reset establishes the invariant, and each instruction keeps it. -/
theorem everyStepKeepsTheInvariant : Obligations.EveryStepKeepsTheInvariant :=
  fun _ _ hs hstep => (step_inv hs).of_next hstep

/-! ### What each command writes -/

/-- The registers of the block, those together that only the same commands write. -/
inductive Part where
  | frame (sel : FrameSel)
  | accumulator
  | transmitBuffer
  | receiveBuffer
  | deframer
  | session
  | counters

/-- The part is the same in the two states. -/
def Part.Kept (s t : State) : Part → Prop
  | .frame sel => t.frame sel = s.frame sel
  | .accumulator => t.csumAcc = s.csumAcc
  | .transmitBuffer => t.txbuf = s.txbuf ∧ t.txlen = s.txlen
  | .receiveBuffer => t.rxbuf = s.rxbuf ∧ t.rxlen = s.rxlen
  | .deframer => t.dfState = s.dfState ∧ t.dfBuf = s.dfBuf ∧ t.dfN = s.dfN ∧ t.dfExp = s.dfExp
  | .session => t.sessState = s.sessState ∧ t.tportOpen = s.tportOpen
  | .counters => t.rxErr = s.rxErr ∧ t.txErr = s.txErr ∧ t.statusFlags = s.statusFlags

/-- The writers that 10_state.md R38, R40, R42, R43, R45 and R50 to R53 name, command by command. -/
def writes : Instr → List Part
  | .csumClr | .csumAdd _ => [.accumulator]
  | .frameNew .. => [.frame .txf]
  | .frameWrByte sel _ _ => [.frame sel]
  | .buildConfig .. | .buildStatus | .encodeFrame _ | .send _ => [.transmitBuffer]
  | .rxClr | .rxAppend _ => [.receiveBuffer]
  | .decodeFrame => [.frame .rxf]
  | .rxPush _ => [.deframer, .frame .rxf]
  | .openSession .. => [.transmitBuffer, .session, .counters]
  | .pollStatus => [.transmitBuffer, .receiveBuffer, .counters]
  | .close => [.session]
  | .csumRd | .frameRdId _ | .frameRdMeta _ | .frameRdData _ | .txRd _ | .checkPkt | .rdState
  | .wireConfig .. | .wireStatus | .wireStatusResponse .. | .wireDataStdData .. | .wireDataStdRemote ..
  | .wireDataExtData .. | .wireDataExtRemote .. => []

/-- From `s` to `t` at most the parts `ps` change, and no `VALID` bit is cleared. -/
def WritesOnly (ps : List Part) (s t : State) : Prop :=
  (∀ p, p ∉ ps → p.Kept s t) ∧ ∀ sel, (s.frame sel).valid = true → (t.frame sel).valid = true

/-- `WritesOnly` part by part. -/
@[simp] theorem writesOnly_iff {ps : List Part} {s t : State} : WritesOnly ps s t ↔
    (.frame .txf ∉ ps → t.txf = s.txf) ∧ (.frame .rxf ∉ ps → t.rxf = s.rxf) ∧ (.accumulator ∉ ps → t.csumAcc = s.csumAcc) ∧
    (.transmitBuffer ∉ ps → t.txbuf = s.txbuf ∧ t.txlen = s.txlen) ∧
    (.receiveBuffer ∉ ps → t.rxbuf = s.rxbuf ∧ t.rxlen = s.rxlen) ∧
    (.deframer ∉ ps → t.dfState = s.dfState ∧ t.dfBuf = s.dfBuf ∧ t.dfN = s.dfN ∧ t.dfExp = s.dfExp) ∧
    (.session ∉ ps → t.sessState = s.sessState ∧ t.tportOpen = s.tportOpen) ∧
    (.counters ∉ ps → t.rxErr = s.rxErr ∧ t.txErr = s.txErr ∧ t.statusFlags = s.statusFlags) ∧
    (s.txf.valid = true → t.txf.valid = true) ∧ (s.rxf.valid = true → t.rxf.valid = true) := by
  constructor
  · rintro ⟨hkept, hvalid⟩
    exact ⟨hkept _, hkept _, hkept _, hkept _, hkept _, hkept _, hkept _, hkept _, hvalid .txf, hvalid .rxf⟩
  · rintro ⟨htxf, hrxf, hacc, htx, hrx, hdf, hsess, hcnt, hvtxf, hvrxf⟩
    constructor
    · rintro (⟨⟨⟩⟩ | _) hp
      exacts [htxf hp, hrxf hp, hacc hp, htx hp, hrx hp, hdf hp, hsess hp, hcnt hp]
    · rintro ⟨⟩
      exacts [hvtxf, hvrxf]

theorem writesOnly_respond {ps : List Part} {s u : State} {r : Response} (hu : WritesOnly ps s u := by simp [writes]) :
    Ends (WritesOnly ps s) (u.respond r) := ⟨_, rfl, hu⟩

theorem writesOnly_raise (ps : List Part) (s : State) (e : ResultCode) : Ends (WritesOnly ps s) (s.raise e) :=
  writesOnly_respond

theorem writesOnly_restart (s : State) (v : Vector Byte 15) (n : BitVec 4) (b : Byte) :
    WritesOnly [.deframer, .frame .rxf] s (({ s with dfBuf := v, dfN := n } : State).restart b) := by
  unfold State.restart
  split <;> simp

theorem execRxPush_writesOnly (b : Byte) (s : State) : Ends (WritesOnly [.deframer, .frame .rxf] s) (execRxPush b s) := by
  unfold execRxPush pushWith
  split
  case h_1 =>
    refine writesOnly_respond ?_
    split <;> simp
  case h_2 =>
    exact ends_ite (fun _ => writesOnly_respond (writesOnly_restart s s.dfBuf s.dfN b)) fun _ =>
      writesOnly_respond
  case h_3 =>
    refine ends_ite (fun _ => writesOnly_respond) fun _ =>
      ends_ite (fun _ => writesOnly_respond (writesOnly_restart s _ _ b)) fun _ => ?_
    split
    next => exact writesOnly_respond
    next hok => exact writesOnly_respond (by simp [(decodePacketFrame_ok hok).1])

theorem execOpen_writesOnly (baud : BitVec 4) (mode : OpMode) (s : State) :
    Ends (WritesOnly [.transmitBuffer, .session, .counters] s) (execOpen baud mode s) := by
  refine ends_ite (fun _ => writesOnly_raise _ s _) fun _ => ends_ite (fun _ => writesOnly_raise _ s _) fun _ =>
    ends_ite (fun _ => ?_) fun _ => writesOnly_respond
  unfold configureSession
  dsimp only
  split
  next => exact writesOnly_respond
  next => exact ends_ite (fun _ => writesOnly_respond) fun _ => writesOnly_respond

theorem sendWith_writesOnly (P : Params) (sel : FrameSel) (s : State) : Ends (WritesOnly [.transmitBuffer] s) (sendWith P sel s) := by
  refine ends_ite (fun _ => writesOnly_raise _ s _) fun _ => ends_withFrame (writesOnly_raise _ s _) fun f _ _ => ?_
  dsimp only
  split <;> exact writesOnly_respond

theorem pollWith_writesOnly (P : Params) (s : State) :
    Ends (WritesOnly [.transmitBuffer, .receiveBuffer, .counters] s) (pollWith P s) := by
  refine ends_ite (fun _ => writesOnly_raise _ s _) fun _ => ?_
  dsimp only
  split
  next => exact writesOnly_respond
  next =>
    refine ends_ite (fun _ => writesOnly_respond) fun _ => ?_
    split
    next => exact writesOnly_respond
    next =>
      exact ends_ite (fun _ => writesOnly_respond) fun _ =>
        ends_ite (fun _ => writesOnly_respond) fun _ => writesOnly_respond

theorem execFrameWrByte_data (sel : FrameSel) (idx : BitVec 5) (b : Byte) (s : State) :
    Ends (fun t => t.txf = { s.txf with data := t.txf.data } ∧ t.rxf = { s.rxf with data := t.rxf.data })
      (execFrameWrByte sel idx b s) := by
  refine ends_ite (fun _ => by simp) fun _ => ends_withFrame (by simp) fun f hf _ => ?_
  subst hf
  cases sel <;> simp

/-- A command changes no part but those it writes. -/
theorem exec_writesOnly (i : Instr) (s : State) : Ends (WritesOnly (writes i) s) (exec i s) := by
  have hraise := writesOnly_raise (writes i) s
  have hsucceed (v d) : Ends (WritesOnly (writes i) s) (s.succeed v d) := writesOnly_respond
  cases i with
  | csumClr | csumAdd | rxClr | buildStatus => exact writesOnly_respond
  | csumRd | rdState => exact hsucceed _ _
  | frameNew =>
    exact ends_ite (fun _ => hraise _) fun _ => ends_ite (fun _ => hraise _) fun _ =>
      writesOnly_respond
  | frameRdId | frameRdMeta => exact ends_withFrame (hraise _) fun _ _ _ => hsucceed _ _
  | frameRdData => exact ends_withFrame (hraise _) fun f _ _ => hsucceed _ (packData f.data)
  | frameWrByte sel =>
    exact ends_ite (fun _ => hraise _) fun _ => ends_withFrame (hraise _) fun f _ hv =>
      writesOnly_respond (by cases sel <;> simp [writes, hv])
  | buildConfig => exact ends_ite (fun _ => writesOnly_respond) fun _ => hraise _
  | encodeFrame => exact ends_withFrame (hraise _) fun _ _ _ => writesOnly_respond
  | txRd => exact ends_ite (fun _ => hraise _) fun _ => hsucceed _ _
  | rxAppend b => exact ends_ite (fun _ => hraise _) fun _ => writesOnly_respond
  | decodeFrame =>
    unfold exec execDecode decodeWith
    dsimp only
    split
    next => exact hraise _
    next hok => exact writesOnly_respond (by simp [writes, (decodePacketFrame_ok hok).1])
  | checkPkt => exact ends_ite (fun _ => hsucceed _ _) fun _ => hraise _
  | rxPush b => exact execRxPush_writesOnly b s
  | openSession baud mode => exact execOpen_writesOnly baud mode s
  | send sel => exact sendWith_writesOnly _ sel s
  | pollStatus => exact pollWith_writesOnly _ s
  | close =>
    refine writesOnly_respond ?_
    split <;> simp [writes]
  | wireConfig | wireStatus | wireStatusResponse | wireDataStdData | wireDataStdRemote | wireDataExtData | wireDataExtRemote =>
    exact ⟨_, rfl, by simp⟩

/-! ### The writers of each part -/

/-- The table of 10_state.md R38. -/
theorem frame_mem_writes {i : Instr} {sel : FrameSel} : .frame sel ∈ writes i →
    (sel = .txf ∧ ∃ k r n d b, i = .frameNew k r n d b) ∨ (sel = .rxf ∧ (i = .decodeFrame ∨ ∃ b, i = .rxPush b)) ∨
      ∃ j b, i = .frameWrByte sel j b := by
  cases i <;> simp_all [writes]

theorem accumulator_mem_writes {i : Instr} : .accumulator ∈ writes i ↔ i = .csumClr ∨ ∃ b, i = .csumAdd b := by
  cases i <;> simp [writes]

theorem transmitBuffer_mem_writes {i : Instr} : .transmitBuffer ∈ writes i ↔
    (∃ b m, i = .buildConfig b m) ∨ i = .buildStatus ∨ (∃ sel, i = .encodeFrame sel) ∨ (∃ b m, i = .openSession b m) ∨
      (∃ sel, i = .send sel) ∨ i = .pollStatus := by
  cases i <;> simp [writes]

theorem receiveBuffer_mem_writes {i : Instr} : .receiveBuffer ∈ writes i ↔
    i = .rxClr ∨ (∃ b, i = .rxAppend b) ∨ i = .pollStatus := by
  cases i <;> simp [writes]

theorem deframer_mem_writes {i : Instr} : .deframer ∈ writes i ↔ ∃ b, i = .rxPush b := by
  cases i <;> simp [writes]

theorem counters_mem_writes {i : Instr} : .counters ∈ writes i ↔ (∃ b m, i = .openSession b m) ∨ i = .pollStatus := by
  cases i <;> simp [writes]

/-- Settles O20, by what each command writes; `FRAME_WR_BYTE` puts back the frame it read with another `DATA`. -/
theorem frameRegistersWrittenOnlyByTheirCommands : Obligations.FrameRegistersWrittenOnlyByTheirCommands := by
  intro i s t h
  obtain ⟨hkept, hvalid⟩ := (exec_writesOnly i s).of_next h
  refine ⟨fun hnew hwr => hkept (.frame .txf) fun hmem => ?_, fun hdecode hpush hwr => hkept (.frame .rxf) fun hmem => ?_,
    hvalid .txf, hvalid .rxf, ?_⟩
  · obtain ⟨-, k, r, n, d, b, rfl⟩ | ⟨⟨⟩, -⟩ | ⟨j, b, rfl⟩ := frame_mem_writes hmem
    · exact hnew k r n d b rfl
    · exact hwr j b rfl
  · obtain ⟨⟨⟩, -⟩ | ⟨-, rfl | ⟨b, rfl⟩⟩ | ⟨j, b, rfl⟩ := frame_mem_writes hmem
    · exact hdecode rfl
    · exact hpush b rfl
    · exact hwr j b rfl
  · rintro sel j b rfl
    exact (execFrameWrByte_data sel j b s).of_next h

/-- Settles O21, by what each command writes. -/
theorem otherRegistersWrittenOnlyByTheirCommands : Obligations.OtherRegistersWrittenOnlyByTheirCommands := by
  intro i s t h
  obtain ⟨hkept, -⟩ := (exec_writesOnly i s).of_next h
  refine ⟨fun hclr hadd => hkept .accumulator ?_, fun hconfig hstatus hencode hopen hsend hpoll => hkept .transmitBuffer ?_,
    fun hclr happend hpoll => hkept .receiveBuffer ?_, fun hpush => hkept .deframer ?_,
    fun hopen hpoll => hkept .counters ?_⟩
  · simp [accumulator_mem_writes, hclr, hadd]
  · simp [transmitBuffer_mem_writes, hconfig, hstatus, hencode, hopen, hsend, hpoll]
  · simp [receiveBuffer_mem_writes, hclr, happend, hpoll]
  · simp [deframer_mem_writes, hpush]
  · simp [counters_mem_writes, hopen, hpoll]

/-! ### Buffers up to their length -/

theorem vector_eq_of_take {n : Nat} {v w : Vector Byte n} (h : v.toList.take n = w.toList.take n) : v = w := by
  rw [List.take_of_length_le (by simp), List.take_of_length_le (by simp)] at h
  exact Vector.toList_inj.mp h

/-- A byte written behind the bytes that count becomes the last that counts. -/
theorem take_set {n k : Nat} (v : Vector Byte n) (b : Byte) (h : k < n) :
    (v.set k b).toList.take (k + 1) = v.toList.take k ++ [b] := by
  rw [Vector.toList_set, List.take_add_one, List.take_set_of_le (le_refl k)]
  simp [h]

theorem setIfInBounds_eq_set {n k : Nat} (v : Vector Byte n) (b : Byte) (h : k < n) : v.setIfInBounds k b = v.set k b := by
  ext
  simp [Vector.getElem_set, Vector.getElem_setIfInBounds]

theorem rxBytes_congr (s : State) (v : Vector Byte 20) (h : ∀ i : Fin 20, i.val < s.rxlen.toNat → v[i] = s.rxbuf[i]) :
    ({ s with rxbuf := v } : State).rxBytes = s.rxBytes := by
  apply List.ext_getElem
  · simp [State.rxBytes]
  · intro i h₁ h₂
    simp only [State.rxBytes, List.length_take, Vector.length_toList] at h₁
    simpa [State.rxBytes] using h ⟨i, by omega⟩ (h₁.trans_le (min_le_left _ _))

/-! ### `DECODE` and `CHECK_PKT` read the bytes below `RXLEN` alone -/

theorem decodeWith_congr (P : Params) {s t : State} (h : s.rxBytes = t.rxBytes) :
    (∃ e, decodeWith P s = s.raise e ∧ decodeWith P t = t.raise e) ∨
      ∃ f v, decodeWith P s = ({ s with rxf := f } : State).succeed v 0 ∧
        decodeWith P t = ({ t with rxf := f } : State).succeed v 0 := by
  unfold decodeWith
  rw [← h]
  cases decodePacketFrame P s.rxBytes with
  | error e => exact .inl ⟨e, rfl, rfl⟩
  | ok p => exact .inr ⟨p.1, _, rfl, rfl⟩

theorem validateResponse_of_ne {v : Vector Byte 20} {n : Nat} (h : n ≠ 20) : validateResponse v n = .packetMalformed := by
  simp [validateResponse, h]

/-- A response that is not 20 bytes long is malformed whatever they are; one that is fills the buffer. -/
theorem execCheckPkt_congr {s t : State} (hlen : s.rxlen = t.rxlen) (h : s.rxBytes = t.rxBytes) :
    ∃ r, execCheckPkt s = s.respond r ∧ execCheckPkt t = t.respond r := by
  by_cases h20 : s.rxlen.toNat = 20
  · have hbuf : s.rxbuf = t.rxbuf := vector_eq_of_take (by simpa only [State.rxBytes, ← hlen, h20] using h)
    unfold execCheckPkt
    rw [← hlen, ← hbuf]
    dsimp only
    split <;> exact ⟨_, rfl, rfl⟩
  · refine ⟨⟨.packetMalformed, 0, 0⟩, ?_, ?_⟩
    · simp [execCheckPkt, validateResponse_of_ne h20]
    · simp [execCheckPkt, validateResponse_of_ne (hlen ▸ h20)]

/-- Settles O44: what the two commands answer depends on `RXBUF[0..RXLEN]` and `RXLEN` alone. -/
theorem receiveBytesPastTheLengthAreNotRead : Obligations.ReceiveBytesPastTheLengthAreNotRead := by
  intro s v _ hv
  have hbytes : s.rxBytes = ({ s with rxbuf := v } : State).rxBytes := (rxBytes_congr s v hv).symm
  constructor
  · obtain ⟨e, hs, ht⟩ | ⟨f, n, hs, ht⟩ := decodeWith_congr Config.params hbytes
    · exact ⟨s.rxf, _, hs, ht⟩
    · exact ⟨f, _, hs, ht⟩
  · obtain ⟨r, hs, ht⟩ := execCheckPkt_congr (s := s) (t := { s with rxbuf := v }) rfl hbytes
    exact ⟨_, hs, ht⟩

/-! ### Two states that differ in what is never observed -/

/-- What `RX_PUSH` makes of the deframer in BODY before it looks whether the packet is complete (43_data_frame.md R220). -/
def State.collect (s : State) (b : Byte) : State := { s with dfBuf := s.dfBuf.setIfInBounds s.dfN.toNat b, dfN := s.dfN + 1 }

/-- What `RX_APPEND` makes of a receive buffer that is not full (43_data_frame.md R208). -/
def State.append (s : State) (b : Byte) : State := { s with rxbuf := s.rxbuf.setIfInBounds s.rxlen.toNat b, rxlen := s.rxlen + 1 }

namespace State.SameVisible

variable {s t : State}

/-- What reads none of the fields that may differ gives the same in both states. -/
theorem congr {α : Type} (h : s.SameVisible t) (g : State → α)
    (hg : ∀ u f₁ f₂ b₁ b₂ d, g { u with txf := f₁, rxf := f₂, txbuf := b₁, rxbuf := b₂, dfBuf := d } = g u := by intros; rfl) :
    g t = g s := by
  rw [h.rest, hg]

theorem frame (h : s.SameVisible t) (sel : FrameSel) : (s.frame sel).SameVisible (t.frame sel) := by
  cases sel
  · exact h.txf
  · exact h.rxf

theorem setFrame (h : s.SameVisible t) (sel : FrameSel) (f : FrameReg) : (s.setFrame sel f).SameVisible (t.setFrame sel f) := by
  cases sel
  · exact { h with txf := ⟨rfl, fun _ => rfl⟩, rest := congrArg (fun u : State => { u with txf := f }) h.rest }
  · exact { h with rxf := ⟨rfl, fun _ => rfl⟩, rest := congrArg (fun u : State => { u with rxf := f }) h.rest }

theorem loadTx (h : s.SameVisible t) {p : List Byte} (hp : p.length ≤ 20) : (s.loadTx p).SameVisible (t.loadTx p) :=
  { h with
    txbuf := by rw [State.loadTx_txBytes _ _ hp, State.loadTx_txBytes _ _ hp]
    rest := congrArg (fun u : State => { u with txbuf := overlay p t.txbuf, txlen := BitVec.ofNat 5 p.length }) h.rest }

theorem loadRx (h : s.SameVisible t) {p : List Byte} (hp : p.length ≤ 20) : (s.loadRx p).SameVisible (t.loadRx p) :=
  { h with
    rxbuf := by rw [State.loadRx_rxBytes _ _ hp, State.loadRx_rxBytes _ _ hp]
    rest := congrArg (fun u : State => { u with rxbuf := overlay p t.rxbuf, rxlen := BitVec.ofNat 5 p.length }) h.rest }

/-- The agents around the block change alike. -/
theorem around (h : s.SameVisible t) (as : List Draw) (n : Nat) (bs : List Byte) (cs : List TransportCall) :
    ({ s with answers := as, draws := n, unread := bs, calls := cs } : State).SameVisible
      { t with answers := as, draws := n, unread := bs, calls := cs } :=
  { h with rest := congrArg (fun u : State => { u with answers := as, draws := n, unread := bs, calls := cs }) h.rest }

theorem loadTx_encodePacket (h : s.SameVisible t) {f : FrameReg} (hf : f.Legal) (hv : f.valid = true) (P : Params) :
    (s.loadTx (encodePacket P f)).SameVisible (t.loadTx (encodePacket P f)) :=
  h.loadTx ((encodePacket_length_bounds hf hv P).2.trans (by omega))

theorem clearRx (h : s.SameVisible t) : ({ s with rxlen := 0 } : State).SameVisible { t with rxlen := 0 } :=
  { h with
    rxbuf := by simp [State.rxBytes]
    rest := congrArg (fun u : State => { u with rxlen := 0 }) h.rest }

theorem accumulator (h : s.SameVisible t) (a : BitVec 16) :
    ({ s with csumAcc := a } : State).SameVisible { t with csumAcc := a } :=
  { h with rest := congrArg (fun u : State => { u with csumAcc := a }) h.rest }

theorem accumulator_add (h : s.SameVisible t) (a : BitVec 16) :
    ({ s with csumAcc := s.csumAcc + a } : State).SameVisible { t with csumAcc := t.csumAcc + a } :=
  { h with rest := congrArg (fun u : State => { u with csumAcc := u.csumAcc + a }) h.rest }

theorem session (h : s.SameVisible t) (x : SessState) :
    ({ s with sessState := x } : State).SameVisible { t with sessState := x } :=
  { h with rest := congrArg (fun u : State => { u with sessState := x }) h.rest }

/-- `T_close`, at the end of a session or of a failed `OPEN`. -/
theorem aborted (h : s.SameVisible t) : ({ s.afterClose with tportOpen := false, sessState := .closed } : State).SameVisible
    { t.afterClose with tportOpen := false, sessState := .closed } :=
  { h with rest := congrArg (fun u : State => { u.afterClose with tportOpen := false, sessState := .closed }) h.rest }

/-- The counters and the flags take what a response reports (44_session.md R252). -/
theorem update (h : s.SameVisible t) (P : Params) (fl rx tx : Byte) :
    ({ s with rxErr := updateCounter P.cntUpdate s.rxErr rx, txErr := updateCounter P.cntUpdate s.txErr tx,
              statusFlags := fl } : State).SameVisible
      { t with rxErr := updateCounter P.cntUpdate t.rxErr rx, txErr := updateCounter P.cntUpdate t.txErr tx,
               statusFlags := fl } :=
  { h with rest := congrArg (fun u : State => { u with
      rxErr := updateCounter P.cntUpdate u.rxErr rx, txErr := updateCounter P.cntUpdate u.txErr tx, statusFlags := fl }) h.rest }

theorem arrive (h : s.SameVisible t) (bs : List Byte) : (s.arrive bs).SameVisible (t.arrive bs) :=
  { h with rest := congrArg (State.arrive · bs) h.rest }

theorem takePort (h : s.SameVisible t) (es : List PortEvent) :
    ({ s with port := es } : State).SameVisible { t with port := es } :=
  { h with rest := congrArg (fun u : State => { u with port := es }) h.rest }

/-- Both get the same unspecified contents, which the counter of free values selects. -/
theorem resetBlock (h : s.SameVisible t) : s.resetBlock.SameVisible t.resetBlock := by
  have heq : t.resetBlock = s.resetBlock := h.congr State.resetBlock
  rw [heq]
  exact ⟨⟨rfl, fun _ => rfl⟩, ⟨rfl, fun _ => rfl⟩, rfl, rfl, rfl, rfl⟩

theorem afterDraw_congr (h : s.SameVisible t) :
    t.afterDraw.answers = s.afterDraw.answers ∧ t.afterDraw.draws = s.afterDraw.draws :=
  State.afterDraw_congr (h.congr State.answers) (h.congr State.draws)

theorem afterOpen (h : s.SameVisible t) : s.afterOpen.SameVisible t.afterOpen := by
  obtain ⟨hanswers, hdraws⟩ := h.afterDraw_congr
  rw [State.afterOpen_eq s, State.afterOpen_eq t, hanswers, hdraws, h.congr State.openAnswer, h.congr State.calls,
    h.congr State.unread]
  exact h.around _ _ _ _

theorem writeAnswer (h : s.SameVisible t) (p : List Byte) : t.writeAnswer p = s.writeAnswer p :=
  State.writeAnswer_congr (h.congr State.draw) p

theorem afterWrite (h : s.SameVisible t) (p : List Byte) : (s.afterWrite p).SameVisible (t.afterWrite p) := by
  obtain ⟨hanswers, hdraws⟩ := h.afterDraw_congr
  rw [State.afterWrite_eq s, State.afterWrite_eq t, hanswers, hdraws, h.writeAnswer, h.congr State.calls,
    h.congr State.unread]
  exact h.around _ _ _ _

theorem readAnswer (h : s.SameVisible t) (n : Nat) : t.readAnswer n = s.readAnswer n :=
  State.readAnswer_congr (h.congr State.draw) (h.congr State.unread) n

theorem afterRead (h : s.SameVisible t) (n : Nat) : (s.afterRead n).SameVisible (t.afterRead n) := by
  obtain ⟨hanswers, hdraws⟩ := h.afterDraw_congr
  rw [State.afterRead_eq s, State.afterRead_eq t, hanswers, hdraws, h.readAnswer, h.congr State.calls, h.congr State.draw,
    h.congr State.available]
  exact h.around _ _ _ _

theorem startPacket (h : s.SameVisible t) (b : Byte) : (s.startPacket b).SameVisible (t.startPacket b) :=
  { h with
    dfBuf := (take_set (k := 0) s.dfBuf b (by omega)).trans (take_set (k := 0) t.dfBuf b (by omega)).symm
    rest := congrArg (fun u : State => { u with dfBuf := t.dfBuf.set 0 b, dfN := 1, dfState := .ctrl }) h.rest }

theorem hunting (h : s.SameVisible t) : s.hunting.SameVisible t.hunting :=
  { h with
    dfBuf := by simp [State.hunting]
    rest := congrArg State.hunting h.rest }

theorem restart (h : s.SameVisible t) (b : Byte) : (s.restart b).SameVisible (t.restart b) := by
  unfold State.restart
  split
  · exact h.hunting.startPacket b
  · exact h.hunting

/-- A byte collected goes behind those the deframer holds. -/
theorem collect (h : s.SameVisible t) (b : Byte) (hn : s.dfN.toNat < 15) : (s.collect b).SameVisible (t.collect b) :=
  { h with
    dfBuf := by
      have hbuf := h.dfBuf
      have hsucc : (s.dfN + 1).toNat = s.dfN.toNat + 1 := by bv_omega
      simp only [State.collect, h.congr State.dfN] at hbuf ⊢
      simp only [hsucc, setIfInBounds_eq_set _ _ hn, take_set, hbuf]
    rest := congrArg (fun u : State => { u with dfBuf := t.dfBuf.setIfInBounds t.dfN.toNat b, dfN := u.dfN + 1 }) h.rest }

theorem append (h : s.SameVisible t) (b : Byte) (hn : s.rxlen.toNat < 20) : (s.append b).SameVisible (t.append b) :=
  { h with
    rxbuf := by
      have hbuf := h.rxbuf
      have hsucc : (s.rxlen + 1).toNat = s.rxlen.toNat + 1 := by bv_omega
      simp only [State.rxBytes, State.append, h.congr State.rxlen] at hbuf ⊢
      simp only [hsucc, setIfInBounds_eq_set _ _ hn, take_set, hbuf]
    rest := congrArg (fun u : State => { u with rxbuf := t.rxbuf.setIfInBounds t.rxlen.toNat b, rxlen := u.rxlen + 1 }) h.rest }

end State.SameVisible

/-! ### Every step keeps the difference unobserved -/

/-- Both outcomes are next states, and these differ in what is never observed at most. -/
def SameEnd (o o' : Result) : Prop := ∃ s' t', o = .next s' ∧ o' = .next t' ∧ s'.SameVisible t'

section
variable {s t : State}

theorem sameEnd_respond (h : s.SameVisible t) {r r' : Response} (hr : r' = r) : SameEnd (s.respond r) (t.respond r') := by
  subst hr
  exact ⟨_, _, rfl, rfl, { h with rest := congrArg (fun u : State => { u with responses := r' :: u.responses }) h.rest }⟩

theorem sameEnd_raise (h : s.SameVisible t) (e : ResultCode) : SameEnd (s.raise e) (t.raise e) := sameEnd_respond h rfl

theorem sameEnd_succeed (h : s.SameVisible t) (v : BitVec 32) (d : BitVec 64) : SameEnd (s.succeed v d) (t.succeed v d) :=
  sameEnd_respond h rfl

theorem sameEnd_inProgress (h : s.SameVisible t) :
    SameEnd (s.respond ⟨.inProgress, s.progress, 0⟩) (t.respond ⟨.inProgress, t.progress, 0⟩) :=
  sameEnd_respond h (by rw [h.congr State.progress])

theorem sameEnd_stateView (h : s.SameVisible t) : SameEnd (s.succeed s.stateView 0) (t.succeed t.stateView 0) :=
  sameEnd_respond h (by rw [h.congr State.stateView])

theorem sameEnd_ite {c c' : Prop} [Decidable c] [Decidable c'] {o₁ o₂ o₁' o₂' : Result} (hc : c' ↔ c)
    (h₁ : c → SameEnd o₁ o₁') (h₂ : ¬c → SameEnd o₂ o₂') : SameEnd (if c then o₁ else o₂) (if c' then o₁' else o₂') := by
  by_cases h : c
  · rw [if_pos h, if_pos (hc.mpr h)]
    exact h₁ h
  · rw [if_neg h, if_neg (mt hc.mp h)]
    exact h₂ h

theorem sameEnd_withFrame (h : s.SameVisible t) {sel : FrameSel} {k k' : FrameReg → Result}
    (hk : ∀ f, f = s.frame sel → f.valid = true → SameEnd (k f) (k' f)) : SameEnd (withFrame s sel k) (withFrame t sel k') := by
  obtain ⟨hvalid, hframe⟩ := h.frame sel
  cases hv : (s.frame sel).valid with
  | true =>
    rw [withFrame_valid hv, withFrame_valid (hvalid ▸ hv), ← hframe hv]
    exact hk _ rfl hv
  | false =>
    rw [withFrame_invalid hv, withFrame_invalid (hvalid ▸ hv)]
    exact sameEnd_raise h _

theorem execTxRd_sameEnd (h : s.SameVisible t) (idx : BitVec 5) :
    SameEnd (execTxRd idx s) (execTxRd idx t) := by
  have hlen := h.congr State.txlen
  refine sameEnd_ite (by rw [hlen]) (fun _ => sameEnd_raise h _) fun hidx => sameEnd_respond h ?_
  have hlt : idx.toNat < s.txlen.toNat := by bv_omega
  have hget (u : State) (hu : u.txlen = s.txlen) : u.txbuf.toList.getD idx.toNat 0 = u.txBytes.getD idx.toNat 0 := by
    simp [State.txBytes, hu, List.getElem?_take_of_lt hlt]
  rw [hget t hlen, hget s rfl, h.txbuf]

theorem execRxAppend_sameEnd (h : s.SameVisible t) (hrx : s.RxLegal) (b : Byte) :
    SameEnd (execRxAppend b s) (execRxAppend b t) := by
  have hlen := h.congr State.rxlen
  refine sameEnd_ite (by rw [hlen]) (fun _ => sameEnd_raise h _) fun hfull => ?_
  have hle : s.rxlen ≤ 20 := hrx
  have hlt : s.rxlen.toNat < 20 := by bv_omega
  exact sameEnd_respond (h.append b hlt) (by rw [hlen])

theorem decodeWith_sameEnd (h : s.SameVisible t) (P : Params) : SameEnd (decodeWith P s) (decodeWith P t) := by
  obtain ⟨e, hs, ht⟩ | ⟨f, v, hs, ht⟩ := decodeWith_congr P h.rxbuf
  · rw [hs, ht]
    exact sameEnd_raise h e
  · rw [hs, ht]
    exact sameEnd_succeed (h.setFrame .rxf f) v 0

theorem execCheckPkt_sameEnd (h : s.SameVisible t) : SameEnd (execCheckPkt s) (execCheckPkt t) := by
  obtain ⟨r, hs, ht⟩ := execCheckPkt_congr (h.congr State.rxlen).symm h.rxbuf
  rw [hs, ht]
  exact sameEnd_respond h rfl

theorem pushHunt_sameEnd (h : s.SameVisible t) (b : Byte) : SameEnd (pushHunt b s) (pushHunt b t) := by
  unfold pushHunt
  split
  · exact sameEnd_inProgress (h.startPacket b)
  · exact sameEnd_inProgress h

theorem pushCtrl_sameEnd (h : s.SameVisible t) (hn : s.dfN = 1) (P : Params) (b : Byte) :
    SameEnd (pushCtrl P b s) (pushCtrl P b t) := by
  have hbuf : s.dfBuf.toList.take 1 = t.dfBuf.toList.take 1 := by
    have hbuf := h.dfBuf
    rwa [h.congr State.dfN, hn] at hbuf
  refine sameEnd_ite Iff.rfl (fun _ => sameEnd_raise (h.restart b) _) fun _ => sameEnd_inProgress ?_
  exact { h with
    dfBuf := by
      show (s.dfBuf.set 1 b).toList.take 2 = (t.dfBuf.set 1 b).toList.take 2
      rw [take_set, take_set, hbuf]
    rest := congrArg (fun u : State => { u with
      dfBuf := t.dfBuf.set 1 b, dfN := 2, dfExp := BitVec.ofNat 4 (packetLength b), dfState := .body }) h.rest }

/-- The bytes given to the decoder are those collected: the last one completes the packet. -/
theorem pushBody_sameEnd (h : s.SameVisible t) (hn : s.dfN < s.dfExp) (P : Params) (b : Byte) :
    SameEnd (pushBody P b s) (pushBody P b t) := by
  have hc := h.collect b (by bv_omega)
  refine sameEnd_ite (by rw [h.congr State.dfN, h.congr State.dfExp]) (fun _ => sameEnd_inProgress hc) fun hlast =>
    sameEnd_ite Iff.rfl (fun _ => sameEnd_raise (hc.restart b) _) fun _ => ?_
  have hfull : (s.collect b).dfN = (s.collect b).dfExp := by
    dsimp only [State.collect] at hlast ⊢
    bv_omega
  have hpacket : (t.collect b).dfBuf.toList.take (t.collect b).dfExp.toNat =
      (s.collect b).dfBuf.toList.take (s.collect b).dfExp.toNat := by
    rw [hc.congr State.dfExp, ← hfull, hc.dfBuf, hc.congr State.dfN]
  dsimp only [State.collect] at hpacket ⊢
  rw [hpacket]
  cases decodePacketFrame P _ with
  | error e => exact sameEnd_raise hc.hunting e
  | ok p => exact sameEnd_succeed (hc.hunting.setFrame .rxf p.1) _ 0

theorem execRxPush_sameEnd (h : s.SameVisible t) (hs : s.Inv) (b : Byte) : SameEnd (execRxPush b s) (execRxPush b t) := by
  have hd := hs.deframer
  unfold execRxPush pushWith
  rw [h.congr State.dfState]
  cases hstate : s.dfState with
  | hunt => exact pushHunt_sameEnd h b
  | ctrl =>
    simp only [State.DeframerLegal, hstate] at hd
    exact pushCtrl_sameEnd h hd.1 _ b
  | body =>
    simp only [State.DeframerLegal, hstate] at hd
    exact pushBody_sameEnd h hd.2.1 _ b

theorem configureSession_sameEnd (h : s.SameVisible t) (baud : BitVec 4) (mode : OpMode) :
    SameEnd (configureSession baud mode s) (configureSession baud mode t) := by
  have hopen : ({ s with tportOpen := true, rxErr := 0, txErr := 0, statusFlags := 0 } : State).SameVisible
      { t with tportOpen := true, rxErr := 0, txErr := 0, statusFlags := 0 } :=
    { h with rest := congrArg (fun u : State => { u with tportOpen := true, rxErr := 0, txErr := 0, statusFlags := 0 }) h.rest }
  have hl := hopen.loadTx (configPacket_length baud mode).le
  unfold configureSession
  dsimp only
  rw [← hl.txbuf, hl.writeAnswer]
  split
  next => exact sameEnd_raise (hl.afterWrite _).aborted _
  next =>
    exact sameEnd_ite Iff.rfl (fun _ => sameEnd_raise (hl.afterWrite _).aborted _) fun _ =>
      sameEnd_succeed ((hl.afterWrite _).session .ready) _ _

theorem execOpen_sameEnd (h : s.SameVisible t) (baud : BitVec 4) (mode : OpMode) :
    SameEnd (execOpen baud mode s) (execOpen baud mode t) := by
  have hc := h.session .configuring
  refine sameEnd_ite Iff.rfl (fun _ => sameEnd_raise h _) fun _ =>
    sameEnd_ite (by rw [h.congr State.sessState]) (fun _ => sameEnd_raise h _) fun _ =>
      sameEnd_ite ?_ (fun _ => configureSession_sameEnd hc.afterOpen baud mode) fun _ =>
        sameEnd_raise (hc.afterOpen.session .closed) _
  rw [hc.congr State.openAnswer]

theorem sendWith_sameEnd (h : s.SameVisible t) (hs : s.Inv) (P : Params) (sel : FrameSel) :
    SameEnd (sendWith P sel s) (sendWith P sel t) := by
  refine sameEnd_ite (by rw [h.congr State.sessState]) (fun _ => sameEnd_raise h _) fun _ =>
    sameEnd_withFrame h fun f hf hv => ?_
  have hl := h.loadTx_encodePacket (hf ▸ hs.frame sel) hv P
  dsimp only
  rw [← hl.txbuf, hl.writeAnswer]
  split
  next => exact sameEnd_raise (hl.afterWrite _) _
  next => exact sameEnd_succeed (hl.afterWrite _) _ 0

/-- The counters and the flags are taken from a response that fills the buffer. -/
theorem takeStatus_sameEnd (h : s.SameVisible t) (P : Params) {d : List Byte} (hd : d.length ≤ 20) :
    SameEnd (takeStatus P d s) (takeStatus P d t) := by
  have hl := h.loadRx hd
  refine sameEnd_ite Iff.rfl (fun _ => sameEnd_raise hl _) fun hshort => ?_
  have hbuf : (t.loadRx d).rxbuf = (s.loadRx d).rxbuf := by
    have hlen : d.length = 20 := by omega
    exact Vector.toList_inj.mp ((overlay_toList d t.rxbuf hlen).trans (overlay_toList d s.rxbuf hlen).symm)
  refine sameEnd_ite (by rw [hbuf]) (fun _ => sameEnd_raise hl _) fun _ => ?_
  have hparse : parseStatus P (t.loadRx d).rxbuf = parseStatus P (s.loadRx d).rxbuf := by rw [hbuf]
  rw [hparse]
  obtain ⟨fl, rx, tx⟩ := parseStatus P (s.loadRx d).rxbuf
  exact sameEnd_stateView (hl.update P fl rx tx)

theorem pollWith_sameEnd (h : s.SameVisible t) (P : Params) : SameEnd (pollWith P s) (pollWith P t) := by
  refine sameEnd_ite (by rw [h.congr State.sessState]) (fun _ => sameEnd_raise h _) fun _ => ?_
  have hl := h.loadTx statusPacket_length.le
  have hw := hl.afterWrite (s.loadTx statusPacket).txBytes
  dsimp only
  rw [← hl.txbuf, hl.writeAnswer]
  split
  next => exact sameEnd_raise hw _
  next =>
    refine sameEnd_ite Iff.rfl (fun _ => sameEnd_raise hw _) fun _ => ?_
    rw [hw.readAnswer]
    split
    next => exact sameEnd_raise (hw.afterRead 20) _
    next d hread => exact takeStatus_sameEnd (hw.afterRead 20) P (readAnswer_length hread)

theorem execClose_sameEnd (h : s.SameVisible t) : SameEnd (execClose s) (execClose t) := by
  unfold execClose
  rw [h.congr State.tportOpen]
  split
  next => exact sameEnd_succeed h.aborted _ _
  next => exact sameEnd_succeed (h.session .closed) _ _

theorem exec_sameEnd (h : s.SameVisible t) (hs : s.Inv) (i : Instr) : SameEnd (exec i s) (exec i t) := by
  have hraise := sameEnd_raise h
  have hsucceed := sameEnd_succeed h
  cases i with
  | csumClr => exact sameEnd_succeed (h.accumulator 0) _ _
  | csumAdd b => exact sameEnd_succeed (h.accumulator_add _) _ _
  | csumRd => exact sameEnd_respond h (by rw [h.congr State.csumAcc])
  | frameNew =>
    exact sameEnd_ite Iff.rfl (fun _ => hraise _) fun _ => sameEnd_ite Iff.rfl (fun _ => hraise _) fun _ =>
      sameEnd_succeed (h.setFrame .txf _) _ _
  | frameRdId => exact sameEnd_withFrame h fun f _ _ => hsucceed (f.id &&& idMask f.ide) 0
  | frameRdMeta => exact sameEnd_withFrame h fun f _ _ => hsucceed f.metaView 0
  | frameRdData => exact sameEnd_withFrame h fun f _ _ => hsucceed (f.len.setWidth 32) (packData f.data)
  | frameWrByte sel =>
    exact sameEnd_ite Iff.rfl (fun _ => hraise _) fun _ => sameEnd_withFrame h fun f _ _ =>
      sameEnd_succeed (h.setFrame sel _) _ _
  | buildConfig =>
    exact sameEnd_ite Iff.rfl (fun _ => sameEnd_succeed (h.loadTx (configPacket_length _ _).le) _ _) fun _ => hraise _
  | buildStatus => exact sameEnd_succeed (h.loadTx statusPacket_length.le) _ _
  | encodeFrame sel =>
    exact sameEnd_withFrame h fun f hf hv =>
      sameEnd_succeed (h.loadTx_encodePacket (hf ▸ hs.frame sel) hv Config.params)
        (BitVec.ofNat 32 (encodePacket Config.params f).length) 0
  | txRd idx => exact execTxRd_sameEnd h idx
  | rxClr => exact sameEnd_succeed h.clearRx _ _
  | rxAppend b => exact execRxAppend_sameEnd h hs.rx b
  | decodeFrame => exact decodeWith_sameEnd h Config.params
  | checkPkt => exact execCheckPkt_sameEnd h
  | rxPush b => exact execRxPush_sameEnd h hs b
  | openSession baud mode => exact execOpen_sameEnd h baud mode
  | send sel => exact sendWith_sameEnd h hs Config.params sel
  | pollStatus => exact pollWith_sameEnd h Config.params
  | close => exact execClose_sameEnd h
  | rdState => exact sameEnd_stateView h
  | wireConfig | wireStatus | wireStatusResponse | wireDataStdData | wireDataStdRemote | wireDataExtData | wireDataExtRemote =>
    exact ⟨_, _, rfl, rfl, h.arrive _⟩

theorem takeUndecodable_sameEnd (h : s.SameVisible t) (img : Image) :
    SameEnd (s.takeUndecodable img) (t.takeUndecodable img) := by
  cases img with
  | command c => exact sameEnd_raise h _
  | packet bs => exact ⟨_, _, rfl, rfl, h.arrive bs⟩

theorem step_sameEnd (h : s.SameVisible t) (hs : s.Inv) : SameEnd (step s) (step t) := by
  have hport := h.congr State.port
  cases hpresent : s.port with
  | nil => exact ⟨s, t, step_idle hpresent, step_idle (hport.trans hpresent), h⟩
  | cons e es =>
    have htaken := h.takePort es
    cases e with
    | reset => exact ⟨_, _, step_reset hpresent, step_reset (hport.trans hpresent), htaken.resetBlock⟩
    | present img =>
      cases hdecode : decode img with
      | ok i =>
        rw [step_instr hpresent hdecode, step_instr (hport.trans hpresent) hdecode]
        exact exec_sameEnd htaken { hs with } i
      | error e =>
        rw [step_undecodable hpresent hdecode, step_undecodable (hport.trans hpresent) hdecode]
        exact takeUndecodable_sameEnd htaken img

end

/-- Settles O19: what is not observed is not read before it is written. -/
theorem unspecifiedFieldsAreNeverObserved : Obligations.UnspecifiedFieldsAreNeverObserved :=
  fun _ _ hs _ h => step_sameEnd h hs

end Sys2Proof.Machine
end

section
/-! Proofs: memory and the ports (20_memory.md): which transport calls a command makes (R80, 60_exceptions.md R282), and the arrival
of wire packets (R90, R92). -/

namespace Sys2Proof.Machine

/-! ### Commands that do not call the transport -/

/-- From `s` to `t` no transport call is made, and no answer of the transport is used. -/
def TransportUnused (s t : State) : Prop := t.calls = s.calls ∧ t.answers = s.answers ∧ t.draws = s.draws

theorem transportUnused_respond {s u : State} {r : Response} (hu : TransportUnused s u := by exact ⟨rfl, rfl, rfl⟩) :
    Ends (TransportUnused s) (u.respond r) := ⟨_, rfl, hu⟩

theorem transportUnused_setFrame (s : State) (sel : FrameSel) (f : FrameReg) : TransportUnused s (s.setFrame sel f) := by
  cases sel <;> exact ⟨rfl, rfl, rfl⟩

theorem transportUnused_restart (s : State) (b : Byte) : TransportUnused s (s.restart b) := by
  unfold State.restart
  split <;> exact ⟨rfl, rfl, rfl⟩

theorem execRxPush_transportUnused (b : Byte) (s : State) : Ends (TransportUnused s) (execRxPush b s) := by
  unfold execRxPush pushWith
  split
  case h_1 =>
    refine transportUnused_respond ?_
    split <;> exact ⟨rfl, rfl, rfl⟩
  case h_2 => exact ends_ite (fun _ => transportUnused_respond (transportUnused_restart s b)) fun _ => transportUnused_respond
  case h_3 =>
    refine ends_ite (fun _ => transportUnused_respond) fun _ =>
      ends_ite (fun _ => transportUnused_respond (transportUnused_restart _ b)) fun _ => ?_
    split <;> exact transportUnused_respond

theorem takeStatus_transportUnused (P : Params) (d : List Byte) (s : State) : Ends (TransportUnused s) (takeStatus P d s) :=
  ends_ite (fun _ => transportUnused_respond) fun _ => ends_ite (fun _ => transportUnused_respond) fun _ =>
    transportUnused_respond

/-- 20_memory.md R80: all but four commands leave the transport alone. -/
theorem exec_transportUnused (i : Instr) (s : State) (hopen : ∀ b m, i ≠ .openSession b m) (hsend : ∀ sel, i ≠ .send sel)
    (hpoll : i ≠ .pollStatus) (hclose : i ≠ .close) : Ends (TransportUnused s) (exec i s) := by
  have hraise (e) : Ends (TransportUnused s) (s.raise e) := transportUnused_respond
  have hsucceed (v d) : Ends (TransportUnused s) (s.succeed v d) := transportUnused_respond
  cases i with
  | csumClr | csumAdd | rxClr | buildStatus => exact transportUnused_respond
  | csumRd | rdState => exact hsucceed _ _
  | frameNew => exact ends_ite (fun _ => hraise _) fun _ => ends_ite (fun _ => hraise _) fun _ => transportUnused_respond
  | frameRdId | frameRdMeta => exact ends_withFrame (hraise _) fun _ _ _ => hsucceed _ _
  | frameRdData => exact ends_withFrame (hraise _) fun f _ _ => hsucceed _ (packData f.data)
  | frameWrByte sel =>
    exact ends_ite (fun _ => hraise _) fun _ => ends_withFrame (hraise _) fun _ _ _ =>
      transportUnused_respond (transportUnused_setFrame s sel _)
  | buildConfig => exact ends_ite (fun _ => transportUnused_respond) fun _ => hraise _
  | encodeFrame => exact ends_withFrame (hraise _) fun _ _ _ => transportUnused_respond
  | txRd => exact ends_ite (fun _ => hraise _) fun _ => hsucceed _ _
  | rxAppend => exact ends_ite (fun _ => hraise _) fun _ => transportUnused_respond
  | decodeFrame =>
    unfold exec execDecode decodeWith
    dsimp only
    split <;> exact transportUnused_respond
  | checkPkt => exact ends_ite (fun _ => hsucceed _ _) fun _ => hraise _
  | rxPush b => exact execRxPush_transportUnused b s
  | openSession b m => exact absurd rfl (hopen b m)
  | send sel => exact absurd rfl (hsend sel)
  | pollStatus => exact absurd rfl hpoll
  | close => exact absurd rfl hclose
  | wireConfig | wireStatus | wireStatusResponse | wireDataStdData | wireDataStdRemote | wireDataExtData | wireDataExtRemote =>
    exact ⟨_, rfl, rfl, rfl, rfl⟩

/-! ### The calls of the session commands -/

theorem writeAnswer_le {s : State} {p : List Byte} {n : Nat} (h : s.writeAnswer p = some n) : n ≤ p.length := by
  obtain ⟨-, hw⟩ | ⟨-, hw⟩ := s.writeAnswer_cases p
  · simp [hw] at h
  · obtain rfl : min s.draw.count p.length = n := by simpa [hw] using h
    exact Nat.min_le_right _ _

/-- 44_session.md R240: `T_close` follows exactly the write that was not whole. -/
theorem configureSession_calls (baud : BitVec 4) (mode : OpMode) (s : State) :
    Ends (fun t => t.calls = .tWrite (configPacket baud mode) (some 20) :: s.calls ∨
      ∃ w, w ≠ some 20 ∧ t.calls = .tClose :: .tWrite (configPacket baud mode) w :: s.calls) (configureSession baud mode s) := by
  have hlen := configPacket_length baud mode
  unfold configureSession
  generalize hu : State.loadTx _ (configPacket baud mode) = u
  have hbytes : u.txBytes = configPacket baud mode := hu ▸ State.loadTx_txBytes _ _ hlen.le
  have hcalls : u.calls = s.calls := hu ▸ rfl
  dsimp only
  rw [hbytes, ← hcalls]
  split
  next hw => simp [hw]
  next n hw =>
    have hle := hlen ▸ writeAnswer_le hw
    refine ends_ite (fun hpart => ?_) fun hwhole => ?_
    · simp [hw, show n ≠ 20 by omega]
    · simp [hw, show n = 20 by omega]

theorem execOpen_calls (baud : BitVec 4) (mode : OpMode) (s : State) :
    Ends (fun t => t.calls = s.calls ∨ t.calls = .tOpen Config.path Config.lineSettings false :: s.calls ∨
      t.calls = .tWrite (configPacket baud mode) (some 20) :: .tOpen Config.path Config.lineSettings true :: s.calls ∨
      ∃ w, w ≠ some 20 ∧ t.calls =
        .tClose :: .tWrite (configPacket baud mode) w :: .tOpen Config.path Config.lineSettings true :: s.calls)
      (execOpen baud mode s) := by
  refine ends_ite (fun _ => ⟨_, rfl, .inl rfl⟩) fun _ => ends_ite (fun _ => ⟨_, rfl, .inl rfl⟩) fun _ =>
    ends_ite (fun hopened => ?_) fun hfailed => ⟨_, rfl, .inr (.inl ?_)⟩
  · obtain ⟨t, ht, hcalls⟩ := configureSession_calls baud mode ({ s with sessState := .configuring } : State).afterOpen
    rw [State.afterOpen_calls, hopened] at hcalls
    exact ⟨t, ht, .inr (.inr hcalls)⟩
  · rw [State.afterOpen_calls, Bool.eq_false_iff.mpr hfailed]

/-- What is written is what `TXBUF` holds up to `TXLEN`, which the call leaves as it is. -/
theorem sendWith_calls (P : Params) (sel : FrameSel) (s : State) :
    Ends (fun t => t.calls = s.calls ∨ ∃ w, t.calls = .tWrite t.txBytes w :: s.calls) (sendWith P sel s) := by
  refine ends_ite (fun _ => ⟨_, rfl, .inl rfl⟩) fun _ => ends_withFrame ⟨_, rfl, .inl rfl⟩ fun f _ _ => ?_
  have hsent (u : State) : (u.afterWrite u.txBytes).calls =
      .tWrite (u.afterWrite u.txBytes).txBytes (u.writeAnswer u.txBytes) :: u.calls := by
    simp [State.txBytes]
  dsimp only
  split <;> exact ⟨_, rfl, .inr ⟨_, hsent (s.loadTx (encodePacket P f))⟩⟩

/-- 44_session.md R250: only a whole write of the request is followed by a `T_read`. -/
theorem pollWith_calls (P : Params) (s : State) :
    Ends (fun t => t.calls = s.calls ∨ (∃ w, w ≠ some 20 ∧ t.calls = .tWrite statusPacket w :: s.calls) ∨
      ∃ d, t.calls = .tRead 20 d :: .tWrite statusPacket (some 20) :: s.calls) (pollWith P s) := by
  refine ends_ite (fun _ => ⟨_, rfl, .inl rfl⟩) fun _ => ?_
  generalize hu : s.loadTx statusPacket = u
  have hbytes : u.txBytes = statusPacket := hu ▸ State.loadTx_txBytes _ _ statusPacket_length.le
  have hcalls : u.calls = s.calls := hu ▸ rfl
  dsimp only
  rw [hbytes, ← hcalls]
  split
  next hw => simp [hw]
  next n hw =>
    have hle := statusPacket_length ▸ writeAnswer_le hw
    refine ends_ite (fun hpart => ?_) fun hwhole => ?_
    · simp [hw, show n ≠ 20 by omega]
    · obtain rfl : n = 20 := by omega
      split
      next => simp [hw]
      next d _ =>
        obtain ⟨t, ht, hkept, -⟩ := takeStatus_transportUnused P d ((u.afterWrite statusPacket).afterRead 20)
        exact ⟨t, ht, by simp [hkept, hw]⟩

theorem execClose_calls (s : State) : Ends (fun t => t.calls = s.calls ∨ t.calls = .tClose :: s.calls) (execClose s) := by
  refine ⟨_, rfl, ?_⟩
  dsimp only
  split
  · exact .inr rfl
  · exact .inl rfl

/-- Settles O22, command by command: each of the four session commands has its list of calls, and the others use no answer. -/
theorem transportCallsOfACommand : Obligations.TransportCallsOfACommand := by
  intro i s t h
  refine ⟨fun hopen hsend hpoll hclose => (exec_transportUnused i s hopen hsend hpoll hclose).of_next h, ?_, ?_, ?_, ?_⟩
  · rintro b m rfl
    exact (execOpen_calls b m s).of_next h
  · rintro sel rfl
    exact (sendWith_calls Config.params sel s).of_next h
  · rintro rfl
    exact (pollWith_calls Config.params s).of_next h
  · rintro rfl
    exact (execClose_calls s).of_next h

/-! ### Wire packets -/

/-- The DLC stands in the low bits of a control byte, where the marker and the two kinds have none (30_encoding.md R117). -/
theorem controlByte_eq_or_dlc (k : IdKind) (r : FrameKind) (n : BitVec 4) :
    controlByte k r n = controlByte k r 0 ||| n.setWidth 8 := by
  cases k <;> cases r <;> decide +revert

theorem dataPacket_eq (k : IdKind) (r : FrameKind) (n : BitVec 4) (id p : List Byte) (e : Byte) :
    dataPacket k r n id p e = [0xAA, controlByte k r 0 ||| n.setWidth 8] ++ id ++ p ++ [e] := by
  rw [dataPacket, controlByte_eq_or_dlc]
  rfl

/-- The arrival of a data-frame packet, its bytes offset by offset. -/
theorem arrive_dataPacket (s : State) (k : IdKind) (r : FrameKind) (n : BitVec 4) (id p : List Byte) (e : Byte) :
    s.arrive (dataPacket k r n id p e) =
      { s with unread := s.unread ++ ([0xAA, controlByte k r 0 ||| n.setWidth 8] ++ id ++ p ++ [e]) } := by
  rw [State.arrive, dataPacket_eq]

/-- Settles O57: the 20-byte packets are written out in the model as here, the data-frame packets by their control byte. -/
theorem wirePacketsArriveUnread : Obligations.WirePacketsArriveUnread := fun s =>
  ⟨fun _ _ _ => rfl, rfl, fun _ _ => rfl, fun n p e =>
    ⟨fun id => congrArg Host.Outcome.next (arrive_dataPacket s .standard .data n id.toList p e),
      fun id => congrArg Host.Outcome.next (arrive_dataPacket s .standard .remote n id.toList p e),
      fun id => congrArg Host.Outcome.next (arrive_dataPacket s .extended .data n id.toList p e),
      fun id => congrArg Host.Outcome.next (arrive_dataPacket s .extended .remote n id.toList p e)⟩⟩

end Sys2Proof.Machine
end

section
/-! Proofs: encoding (30_encoding.md): the fields of a command word (R100), decoding and encoding a command (R101 to R106, R124). -/

namespace Sys2Proof

open Sys2Proof.Machine

/-! ### The fields of a command word (R100) -/

/-- What stands in the places `a, a+1, ..` of a field put in its place is the field. -/
@[simp] theorem extractLsb'_place_same {w n a : Nat} (v : BitVec w) (h : a + w ≤ n) : (place n a v).extractLsb' a w = v := by
  ext i hi
  rw [BitVec.getElem_extractLsb', getLsbD_place_inside n a v (a + i) (by omega) (by omega), Nat.add_sub_cancel_left,
    BitVec.getLsbD_eq_getElem hi]

/-- A field in its place leaves zeros in every other field's place. -/
theorem extractLsb'_place_disjoint {w n a b m : Nat} (v : BitVec w) (h : b + m ≤ a ∨ a + w ≤ b) :
    (place n a v).extractLsb' b m = 0 := by
  ext i hi
  rw [BitVec.getElem_extractLsb']
  obtain hbelow | habove := h
  · simpa using getLsbD_place_below n a v (b + i) (by omega)
  · simpa using getLsbD_place_above n a v (b + i) (by omega)

/-- The low bits of a word with the next field above them are the low bits up to that field's end. -/
theorem place_or_place_extractLsb' {n : Nat} (c : BitVec n) (a w : Nat) :
    place n 0 (c.extractLsb' 0 a) ||| place n a (c.extractLsb' a w) = place n 0 (c.extractLsb' 0 (a + w)) := by
  apply BitVec.eq_of_getLsbD_eq
  intro i hi
  simp only [BitVec.getLsbD_or, getLsbD_place, BitVec.getLsbD_extractLsb', hi]
  by_cases h : a ≤ i
  · have hlt : ¬ i < a := by omega
    have hiff : i - a < w ↔ i < a + w := by omega
    simp [h, hlt, hiff]
  · have hlt : i < a := by omega
    simp [h, hlt, Nat.lt_add_right w hlt]

theorem place_extractLsb'_all {n : Nat} (c : BitVec n) : place n 0 (c.extractLsb' 0 n) = c := by
  simp [place]

theorem wordOfFields_fieldsOfWord (c : CmdWord) : wordOfFields (fieldsOfWord c) = c := by
  simp only [wordOfFields, fieldsOfWord, place_or_place_extractLsb', Nat.reduceAdd, place_extractLsb'_all]

theorem fieldsOfWord_wordOfFields (f : Fields) : fieldsOfWord (wordOfFields f) = f := by
  simp [wordOfFields, fieldsOfWord, BitVec.extractLsb'_or, extractLsb'_place_disjoint]

theorem fieldsOfWord_injective {c d : CmdWord} (h : fieldsOfWord c = fieldsOfWord d) : c = d := by
  rw [← wordOfFields_fieldsOfWord c, h, wordOfFields_fieldsOfWord]

/-- The low bits of a word as a number, with the next field above them. -/
theorem toNat_extractLsb'_add {n : Nat} (c : BitVec n) (a w : Nat) :
    (c.extractLsb' 0 a).toNat + 2 ^ a * (c.extractLsb' a w).toNat = (c.extractLsb' 0 (a + w)).toNat := by
  simp only [BitVec.extractLsb'_toNat, Nat.shiftRight_eq_div_pow, pow_zero, Nat.div_one, pow_add, Nat.mod_mul]

theorem toNat_eq_sum_fieldsOfWord (c : CmdWord) : c.toNat =
    (fieldsOfWord c).op.toNat + 2 ^ 5 * (fieldsOfWord c).sel.toNat + 2 ^ 6 * (fieldsOfWord c).ide.toNat +
      2 ^ 7 * (fieldsOfWord c).rtr.toNat + 2 ^ 8 * (fieldsOfWord c).len.toNat + 2 ^ 12 * (fieldsOfWord c).baud.toNat +
      2 ^ 16 * (fieldsOfWord c).mode.toNat + 2 ^ 18 * (fieldsOfWord c).idx.toNat + 2 ^ 23 * (fieldsOfWord c).rsv.toNat +
      2 ^ 24 * (fieldsOfWord c).byte.toNat + 2 ^ 32 * (fieldsOfWord c).id.toNat + 2 ^ 64 * (fieldsOfWord c).data.toNat := by
  simp only [fieldsOfWord, toNat_extractLsb'_add, Nat.reduceAdd, BitVec.extractLsb'_eq_self]

theorem dataByte_fieldsOfWord (c : CmdWord) {k : Nat} (h : k < 8) :
    dataByte (fieldsOfWord c).data k = c.extractLsb' (64 + 8 * k) 8 := by
  ext i hi
  have hlt : 8 * k + i < 64 := by omega
  simp [dataByte, fieldsOfWord, hlt, Nat.add_assoc]

/-- Settles O3: each position of R100's table begins where the one before ends, so the fields tile the word. -/
theorem commandWordFieldsAtTheirBits : Obligations.CommandWordFieldsAtTheirBits := by
  refine ⟨wordOfFields_fieldsOfWord, fieldsOfWord_wordOfFields, fun f => ⟨?_, fun k hk => ?_⟩⟩
  · simpa only [fieldsOfWord_wordOfFields] using toNat_eq_sum_fieldsOfWord (wordOfFields f)
  · simpa only [fieldsOfWord_wordOfFields] using dataByte_fieldsOfWord (wordOfFields f) hk

/-! ### Decoding a command word (R101, R102, R106) -/

/-- The `OP` code of an operation: the one its encoding carries. -/
def codeOf (o : Opcode) : BitVec 5 := (fieldsOf (assemble o {})).op

theorem opcodeOf_eq_some {op : BitVec 5} {o : Opcode} : opcodeOf op = some o ↔ op = codeOf o := by
  cases o <;> decide +revert

theorem opcodeOf_eq_none {op : BitVec 5} : opcodeOf op = none ↔ op = 0 ∨ 0x17 ≤ op.toNat := by
  decide +revert

theorem decodeWord_unassigned {c : CmdWord} (h : opcodeOf (fieldsOfWord c).op = none) :
    decodeWord c = .error .unassignedOp := by
  simp [decodeWord, h]

theorem decodeWord_nonzeroField {c : CmdWord} {o : Opcode} (hop : opcodeOf (fieldsOfWord c).op = some o)
    (hz : unusedZero (usesOf o) (fieldsOfWord c) = false) : decodeWord c = .error .nonzeroField := by
  simp [decodeWord, hop, hz]

theorem decodeWord_eq_ok {c : CmdWord} {i : Instr} : decodeWord c = .ok i ↔
    ∃ o, opcodeOf (fieldsOfWord c).op = some o ∧ unusedZero (usesOf o) (fieldsOfWord c) = true ∧
      assemble o (fieldsOfWord c) = i := by
  cases hop : opcodeOf (fieldsOfWord c).op with
  | none => simp [decodeWord_unassigned hop]
  | some o =>
    cases hz : unusedZero (usesOf o) (fieldsOfWord c) with
    | false => simp [decodeWord_nonzeroField hop hz, hz]
    | true => simp [decodeWord, hop, hz]

/-! ### Encoding a command and back -/

/-- The fields of a command name its operation, use no field the operation does not, and give the command back. -/
theorem assemble_fieldsOf {i : Instr} (h : i.isCommand = true) :
    ∃ o, opcodeOf (fieldsOf i).op = some o ∧ unusedZero (usesOf o) (fieldsOf i) = true ∧ assemble o (fieldsOf i) = i := by
  cases i with
  | csumClr | csumAdd | csumRd | buildStatus | txRd | rxClr | rxAppend | decodeFrame | checkPkt | rxPush | pollStatus
  | close | rdState => exact ⟨_, rfl, rfl, rfl⟩
  | frameNew | frameRdId | frameRdMeta | frameRdData | frameWrByte | buildConfig | encodeFrame | openSession | send =>
    exact ⟨_, rfl, rfl, by simp [assemble, fieldsOf]⟩
  | wireConfig | wireStatus | wireStatusResponse | wireDataStdData | wireDataStdRemote | wireDataExtData | wireDataExtRemote =>
    cases h

theorem isCommand_assemble (o : Opcode) (f : Fields) : (assemble o f).isCommand = true := by
  cases o <;> rfl

theorem op_fieldsOf_assemble (o : Opcode) (f : Fields) : (fieldsOf (assemble o f)).op = codeOf o := by
  cases o <;> rfl

theorem opcodeOfInstr_assemble (o : Opcode) (f : Fields) : opcodeOfInstr (assemble o f) = some o :=
  opcodeOf_eq_some.mpr (op_fieldsOf_assemble o f)

/-- The unused fields are 0, one by one (30_encoding.md R101). -/
theorem unusedZero_iff {u : FieldUse} {f : Fields} : unusedZero u f = true ↔
    f.rsv = 0 ∧ (u.sel || f.sel == 0) ∧ (u.ide || f.ide == 0) ∧ (u.rtr || f.rtr == 0) ∧ (u.len || f.len == 0) ∧
      (u.baud || f.baud == 0) ∧ (u.mode || f.mode == 0) ∧ (u.idx || f.idx == 0) ∧ (u.byte || f.byte == 0) ∧
      (u.id || f.id == 0) ∧ (u.data || f.data == 0) := by
  simp only [unusedZero, Bool.and_eq_true, beq_iff_eq, and_assoc]

/-- Where the unused fields are 0, the encoding of the command the fields give is those fields. -/
theorem fieldsOf_assemble {o : Opcode} {f : Fields} (hop : opcodeOf f.op = some o) (hz : unusedZero (usesOf o) f = true) :
    fieldsOf (assemble o f) = f := by
  have hcode := (op_fieldsOf_assemble o f).trans (opcodeOf_eq_some.mp hop).symm
  obtain ⟨op, sel, ide, rtr, len, baud, mode, idx, rsv, byte, id, data⟩ := f
  cases o <;> simp_all [unusedZero_iff, usesOf, assemble, fieldsOf]

/-- Settles O1: the encoder's fields stand at their positions (O3), where the decoder reads them back. -/
theorem decodeOfEncodeIsTheCommand : Obligations.DecodeOfEncodeIsTheCommand := by
  intro i hi
  have hencode : encode i = .command (wordOfFields (fieldsOf i)) := if_pos hi
  rw [hencode]
  refine decodeWord_eq_ok.mpr ?_
  rw [fieldsOfWord_wordOfFields]
  exact assemble_fieldsOf hi

/-- Settles O2: what the decoder did not read is 0 in the word, as in the encoding. -/
theorem decodedWordIsTheEncoding : Obligations.DecodedWordIsTheEncoding := by
  intro c i hdecode
  obtain ⟨o, hop, hz, rfl⟩ := decodeWord_eq_ok.mp hdecode
  rw [encode, if_pos (isCommand_assemble o _), fieldsOf_assemble hop hz, wordOfFields_fieldsOfWord]

/-! ### The opcode table (R124) -/

/-- The fields of the mask of an operation's row: all of `OP`, `RSV` and the unused fields. -/
def FieldUse.mask (u : FieldUse) : Fields where
  op   := BitVec.allOnes 5
  sel  := if u.sel then 0 else BitVec.allOnes 1
  ide  := if u.ide then 0 else BitVec.allOnes 1
  rtr  := if u.rtr then 0 else BitVec.allOnes 1
  len  := if u.len then 0 else BitVec.allOnes 4
  baud := if u.baud then 0 else BitVec.allOnes 4
  mode := if u.mode then 0 else BitVec.allOnes 2
  idx  := if u.idx then 0 else BitVec.allOnes 5
  rsv  := BitVec.allOnes 1
  byte := if u.byte then 0 else BitVec.allOnes 8
  id   := if u.id then 0 else BitVec.allOnes 32
  data := if u.data then 0 else BitVec.allOnes 64

theorem fieldsOfWord_opcodeRow : ∀ r ∈ opcodeRows,
    fieldsOfWord r.mask = (usesOf r.opcode).mask ∧ fieldsOfWord r.pat = { op := codeOf r.opcode } := by
  decide

theorem exists_opcodeRow (o : Opcode) : ∃ r ∈ opcodeRows, r.opcode = o := by
  cases o <;> decide

theorem opcodeRow_ext : ∀ r ∈ opcodeRows, ∀ q ∈ opcodeRows, r.opcode = q.opcode → r = q := by
  decide

theorem and_mask_eq_zero {w : Nat} (used : Bool) (x : BitVec w) :
    x &&& (if used then 0 else BitVec.allOnes w) = 0 ↔ (used || x == 0) = true := by
  cases used <;> simp

theorem and_mask_eq_pat {c m p : CmdWord} {u : FieldUse} {code : BitVec 5} (hm : fieldsOfWord m = u.mask)
    (hp : fieldsOfWord p = { op := code }) :
    c &&& m = p ↔ (fieldsOfWord c).op = code ∧ unusedZero u (fieldsOfWord c) = true := by
  have hinj : c &&& m = p ↔ fieldsOfWord (c &&& m) = fieldsOfWord p := ⟨congrArg _, fieldsOfWord_injective⟩
  simp only [fieldsOfWord, Fields.mk.injEq, FieldUse.mask] at hm
  rw [hinj, hp, unusedZero_iff]
  simp only [fieldsOfWord, BitVec.extractLsb'_and, hm, Fields.mk.injEq, and_mask_eq_zero, BitVec.and_allOnes]
  tauto

/-- A word matches a row exactly when it has the `OP` of the row's operation and its unused fields are 0. -/
theorem opcodeRow_matches {r : OpcodeRow} (hr : r ∈ opcodeRows) (c : CmdWord) : c &&& r.mask = r.pat ↔
    opcodeOf (fieldsOfWord c).op = some r.opcode ∧ unusedZero (usesOf r.opcode) (fieldsOfWord c) = true := by
  obtain ⟨hmask, hpat⟩ := fieldsOfWord_opcodeRow r hr
  rw [and_mask_eq_pat hmask hpat, opcodeOf_eq_some]

/-- A word decodes to a command of an operation exactly when it has its `OP` and its unused fields are 0. -/
theorem exists_decode_iff {c : CmdWord} {o : Opcode} :
    (∃ i, decode (.command c) = .ok i ∧ opcodeOfInstr i = some o) ↔
      opcodeOf (fieldsOfWord c).op = some o ∧ unusedZero (usesOf o) (fieldsOfWord c) = true := by
  constructor
  · rintro ⟨i, hdecode, ho⟩
    obtain ⟨o', hop, hz, rfl⟩ := decodeWord_eq_ok.mp hdecode
    obtain rfl : o' = o := by simpa [opcodeOfInstr_assemble] using ho
    exact ⟨hop, hz⟩
  · rintro ⟨hop, hz⟩
    exact ⟨_, decodeWord_eq_ok.mpr ⟨o, hop, hz, rfl⟩, opcodeOfInstr_assemble o _⟩

/-- Settles O4: decoding and a row's match are the same condition on the fields, and an operation has one row. -/
theorem opcodeTableRowsDecideDecoding : Obligations.OpcodeTableRowsDecideDecoding := by
  refine ⟨fun c o => ?_, fun c r hr q hq hmr hmq => ?_⟩
  · rw [exists_decode_iff]
    constructor
    · intro h
      obtain ⟨r, hr, rfl⟩ := exists_opcodeRow o
      exact ⟨r, hr, rfl, (opcodeRow_matches hr c).mpr h⟩
    · rintro ⟨r, hr, rfl, hmatch⟩
      exact (opcodeRow_matches hr c).mp hmatch
  · obtain ⟨hopr, -⟩ := (opcodeRow_matches hr c).mp hmr
    obtain ⟨hopq, -⟩ := (opcodeRow_matches hq c).mp hmq
    exact opcodeRow_ext r hr q hq (Option.some.inj (hopr.symm.trans hopq))

/-- Settles O5. -/
theorem sampleWordsDecode : Obligations.SampleWordsDecode := by
  unfold Obligations.SampleWordsDecode
  decide

end Sys2Proof

namespace Sys2Proof.Machine

/-! ### A step on what is presented (R102, R106, R120) -/

/-- Settles O10. -/
theorem stepRunsTheDecodedInstruction : Obligations.StepRunsTheDecodedInstruction := fun _ _ _ _ hport hdecode =>
  step_instr hport hdecode

/-- A command word that is no instruction is answered `IllegalCommand`, and nothing else changes (30_encoding.md R120). -/
theorem step_illegal {s : State} {c : CmdWord} {es : List PortEvent} {e : DecodeError}
    (hport : s.port = .present (.command c) :: es) (hdecode : decodeWord c = .error e) :
    step s = .next { s with port := es, responses := ⟨.illegalCommand, 0, 0⟩ :: s.responses } :=
  step_undecodable hport hdecode

/-- Settles O6. -/
theorem unassignedOpIsIllegal : Obligations.UnassignedOpIsIllegal := fun _ _ _ hport hop =>
  step_illegal hport (decodeWord_unassigned (opcodeOf_eq_none.mpr hop))

theorem refusesOtherFields (o : Opcode) : RefusesOtherFields o := fun _ _ _ hport hop hz =>
  step_illegal hport (decodeWord_nonzeroField hop hz)

theorem baudLegal_eq_false {baud : BitVec 4} : baudLegal baud = false ↔ baud = 0 ∨ 0xD ≤ baud.toNat := by
  decide +revert

/-- Settles O7: decoding refuses the fields, and each operation begins with its own check. -/
theorem illegalFieldsChangeNothing : Obligations.IllegalFieldsChangeNothing := by
  refine ⟨refusesOtherFields, fun s baud mode hbaud => ?_, fun s sel idx b hidx => ?_, fun s idx hidx => ?_⟩
  · have hillegal := baudLegal_eq_false.mpr hbaud
    constructor
    · simp [exec, execBuildConfig, hillegal]
    · simp [exec, execOpen, hillegal]
  · exact if_pos (show 7 < idx from hidx)
  · exact if_pos (show s.txlen ≤ idx from hidx)

end Sys2Proof.Machine
end

section
/-! Proofs: encoding (30_encoding.md): the wire packets (R110 to R118), those the block builds (R202), and a status response that
arrives and is polled (R115). -/

namespace Sys2Proof.Machine

/-! ### The bytes of a data-frame packet (R116, R117) -/

theorem controlByte_dlc (k : IdKind) (r : FrameKind) (n : BitVec 4) : (controlByte k r n).extractLsb' 0 4 = n := by
  cases k <;> cases r <;> decide +revert

theorem controlByte_rtr (k : IdKind) (r : FrameKind) (n : BitVec 4) : (controlByte k r n).extractLsb' 4 1 = r.bit := by
  cases k <;> cases r <;> decide +revert

theorem controlByte_ide (k : IdKind) (r : FrameKind) (n : BitVec 4) : (controlByte k r n).extractLsb' 5 1 = k.bit := by
  cases k <;> cases r <;> decide +revert

theorem controlByte_marker (k : IdKind) (r : FrameKind) (n : BitVec 4) : (controlByte k r n).extractLsb' 6 2 = 3 := by
  cases k <;> cases r <;> decide +revert

/-- The packet the encoder builds is the table's data-frame packet. -/
theorem encodePacket_eq_dataPacket (P : Params) (f : FrameReg) : encodePacket P f =
    dataPacket f.ide f.rtr f.len (idBytes P.idOrder f.ide f.id) (f.data.toList.take f.len.toNat) endMarker := rfl

/-- Byte `j` of the identifier on the wire (20_memory.md R82). -/
theorem idBytes_getElem? (o : IdOrder) (k : IdKind) (id : BitVec 32) {j : Nat} (h : j < idWidth k) :
    (idBytes o k id)[j]? = some (match o with
      | .le => idByte id j
      | .be => idByte id (idWidth k - 1 - j)) := by
  have hle {j : Nat} (h : j < idWidth k) : (idBytesLE id k)[j]? = some (idByte id j) := by
    cases k <;> simp only [idWidth] at h <;> interval_cases j <;> rfl
  have hlen : (idBytesLE id k).length = idWidth k := idBytes_length .le k id
  cases o with
  | le => exact hle h
  | be =>
    rw [idBytes, List.getElem?_reverse (by omega), hlen]
    exact hle (by omega)

section

variable (k : IdKind) (r : FrameKind) (n : BitVec 4) (id p : List Byte) (e : Byte)

theorem dataPacket_getElem?_id {j : Nat} (h : j < id.length) : (dataPacket k r n id p e)[2 + j]? = id[j]? := by
  simp [dataPacket, show 2 + j = j + 1 + 1 by omega, h, Nat.lt_add_right]

theorem dataPacket_getElem?_payload {j : Nat} (h : j < p.length) :
    (dataPacket k r n id p e)[2 + id.length + j]? = p[j]? := by
  simp [dataPacket, show 2 + id.length + j = id.length + j + 1 + 1 by omega, List.getElem?_append_right,
    List.getElem?_append_left, h]

theorem dataPacket_getElem?_end : (dataPacket k r n id p e)[2 + id.length + p.length]? = some e := by
  simp [dataPacket, show 2 + id.length + p.length = id.length + p.length + 1 + 1 by omega]

end

/-- Settles O37: the bytes of a data-frame packet stand one part behind the other. -/
theorem encodedPacketLayout : Obligations.EncodedPacketLayout := by
  intro P f hlen p w
  have hw : w = idWidth f.ide := by cases h : f.ide <;> simp [w, h, idWidth]
  have hid : w = (idBytes P.idOrder f.ide f.id).length := by rw [idBytes_length, hw]
  have hpay : f.len.toNat = (f.data.toList.take f.len.toNat).length := by simpa using hlen
  have hp : p = dataPacket f.ide f.rtr f.len (idBytes P.idOrder f.ide f.id) (f.data.toList.take f.len.toNat) endMarker := rfl
  refine ⟨?_, rfl, ?_, fun j hj => ?_, fun j hj => ?_, ?_⟩
  · rw [hw]
    exact encodePacket_length P f hlen
  · simp [hp, dataPacket, controlByte, place]
  · rw [hp, dataPacket_getElem?_id _ _ _ _ _ _ (hid ▸ hj), idBytes_getElem? _ _ _ (hw ▸ hj), ← hw]
    rfl
  · rw [hp, hid, dataPacket_getElem?_payload _ _ _ _ _ _ (hpay ▸ hj), List.getElem?_take_of_lt hj]
    simp
  · have hend := dataPacket_getElem?_end f.ide f.rtr f.len (idBytes P.idOrder f.ide f.id) (f.data.toList.take f.len.toNat)
      endMarker
    rw [← hid, ← hpay] at hend
    exact hend

/-! ### Decoding the 20-byte packets (R110, R114, R115) -/

/-- The bytes of a vector are found again where they stand. -/
theorem slice_append {n a : Nat} (pre post : List Byte) (v : Vector Byte n) (h : pre.length = a) :
    slice a (pre ++ v.toList ++ post) = v := by
  subst h
  ext i hi
  simp [slice, List.getD_eq_getElem?_getD, List.getElem?_append]

/-- A list from `i` on: the element there, the next `n`, and the rest. -/
theorem drop_eq_getD_cons_take {bs : List Byte} {i : Nat} (h : i < bs.length) (n : Nat) :
    bs.drop i = bs.getD i 0 :: ((bs.drop (i + 1)).take n ++ bs.drop (i + 1 + n)) := by
  rw [List.drop_eq_getElem_cons h, List.getD_eq_getElem bs 0 h, ← List.drop_drop (i := n), List.take_append_drop]

/-- A mode byte below 4 is the code of its mode. -/
theorem code_ofCode_of_high_zero (m : Byte) (h : m.extractLsb' 2 6 = 0) :
    (OpMode.ofCode (m.extractLsb' 0 2)).code.setWidth 8 = m := by
  rw [OpMode.code_ofCode]
  decide +revert

/-- 20 bytes with the fixed bytes of a configuration packet are the configuration packet of the others (30_encoding.md R110). -/
theorem wireBytes_wireConfig_of_fixedBytes {bs : List Byte} (hlen : bs.length = 20) (hhead : bs.take 3 = [0xAA, 0x55, 0x12])
    (hflags : (bs.drop 4).take 9 = [0x02, 0, 0, 0, 0, 0, 0, 0, 0]) (hmode : (bs.getD 13 0).extractLsb' 2 6 = 0)
    (htail : (bs.drop 14).take 5 = [0x01, 0, 0, 0, 0]) :
    wireBytes (.wireConfig (bs.getD 3 0) (.ofCode ((bs.getD 13 0).extractLsb' 0 2)) (bs.getD 19 0)) = bs := by
  have hbaud : bs.drop 3 = bs.getD 3 0 :: ((bs.drop 4).take 9 ++ bs.drop 13) := drop_eq_getD_cons_take (by omega) 9
  have hmodes : bs.drop 13 = bs.getD 13 0 :: ((bs.drop 14).take 5 ++ bs.drop 19) := drop_eq_getD_cons_take (by omega) 5
  have hlast : bs.drop 19 = [bs.getD 19 0] := by
    rw [List.drop_eq_getElem_cons (by omega), List.drop_of_length_le (by omega), List.getD_eq_getElem bs 0 (by omega)]
  rw [wireBytes, code_ofCode_of_high_zero _ hmode]
  conv_rhs => rw [← List.take_append_drop 3 bs, hhead, hbaud, hflags, hmodes, htail, hlast]
  rfl

theorem decodePacket_wireConfig (b : Byte) (m : OpMode) (cs : Byte) :
    decodePacket (wireBytes (.wireConfig b m cs)) = .ok (.wireConfig b m cs) := by
  cases m <;> simp [decodePacket, decodeWire20, wireBytes, OpMode.code, OpMode.ofCode]

theorem decodePacket_wireStatus : decodePacket (wireBytes .wireStatus) = .ok .wireStatus := by decide

/-- A status response is read as one unless it is the status packet or a configuration packet (log entry 20). -/
theorem decodePacket_wireStatusResponse {body : Vector Byte 17} {cs : Byte}
    (hstatus : wireBytes (.wireStatusResponse body cs) ≠ wireBytes .wireStatus)
    (hconfig : ∀ b m c, wireBytes (.wireStatusResponse body cs) ≠ wireBytes (.wireConfig b m c)) :
    decodePacket (wireBytes (.wireStatusResponse body cs)) = .ok (.wireStatusResponse body cs) := by
  have hlen : (wireBytes (.wireStatusResponse body cs)).length = 20 := by simp [wireBytes]
  have hhead : (wireBytes (.wireStatusResponse body cs)).take 2 = [0xAA, 0x55] := rfl
  have hbody : slice 2 (wireBytes (.wireStatusResponse body cs)) = body := slice_append [0xAA, 0x55] [cs] body rfl
  have hcs : (wireBytes (.wireStatusResponse body cs)).getD 19 0 = cs := by simp [wireBytes]
  rw [decodePacket, if_pos ⟨hlen, hhead⟩, decodeWire20]
  refine (if_neg hstatus).trans ?_
  dsimp only
  rw [if_neg, if_pos hhead, hbody, hcs]
  rintro ⟨h3, h4, h13, h14⟩
  exact hconfig _ _ _ (wireBytes_wireConfig_of_fixedBytes hlen h3 h4 h13 h14).symm

/-! ### Decoding the data-frame packets (R116, R117, R118) -/

theorem decodePacket_dataPacket (k : IdKind) (r : FrameKind) (n : BitVec 4) {id p : List Byte} (e : Byte)
    (hid : id.length = idWidth k) (hp : p.length = n.toNat) : decodePacket (dataPacket k r n id p e) = .ok
      (match k, r with
        | .standard, .data => .wireDataStdData n (slice 0 (id ++ p ++ [e])) p e
        | .standard, .remote => .wireDataStdRemote n (slice 0 (id ++ p ++ [e])) p e
        | .extended, .data => .wireDataExtData n (slice 0 (id ++ p ++ [e])) p e
        | .extended, .remote => .wireDataExtRemote n (slice 0 (id ++ p ++ [e])) p e) := by
  have hmarker := controlByte_marker k r n
  have hne : ¬ ((dataPacket k r n id p e).length = 20 ∧ (dataPacket k r n id p e).take 2 = [0xAA, 0x55]) := by
    rintro ⟨-, h⟩
    have hc : controlByte k r n = 0x55 := congrArg (·.getD 1 0) h
    rw [hc] at hmarker
    exact absurd hmarker (by decide)
  have hwidth : (if k.bit = 1 then 4 else 2) = idWidth k := by cases k <;> rfl
  have hpayload : ((id ++ p ++ [e]).drop (idWidth k)).take n.toNat = p := by simp [← hid, ← hp]
  have hend : (id ++ p ++ [e]).getD (idWidth k + n.toNat) 0 = e := by simp [← hid, ← hp]
  rw [decodePacket, if_neg hne, dataPacket]
  unfold decodeWireData
  dsimp only
  rw [controlByte_dlc, controlByte_ide, controlByte_rtr, hmarker, hwidth, hpayload, hend,
    if_neg (by simp [hid, hp, Nat.add_assoc])]
  cases k <;> cases r <;> rfl

theorem wellFormedData_iff {k : IdKind} {n : BitVec 4} {id p : List Byte} {e : Byte} : wellFormedData k n id p e = true ↔
    n ≤ 8 ∧ p.length = n.toNat ∧ e = endMarker ∧ idValue Config.params.idOrder id ≤ idMask k := by
  simp [wellFormedData, and_assoc]

/-- Settles O8, row by row. -/
theorem decodeOfEncodeIsTheWirePacket : Obligations.DecodeOfEncodeIsTheWirePacket := by
  intro i hi hwf hresponse
  have hencode {j : Instr} (hj : j.isCommand = false) : encode j = .packet (wireBytes j) := by simp [encode, hj]
  have hslice {n : Nat} (v : Vector Byte n) (p : List Byte) (e : Byte) : slice 0 (v.toList ++ p ++ [e]) = v := by
    simpa using slice_append [] (p ++ [e]) v rfl
  rw [hencode hi]
  cases i with
  | wireConfig b m cs => exact decodePacket_wireConfig b m cs
  | wireStatus => exact decodePacket_wireStatus
  | wireStatusResponse body cs =>
    obtain ⟨hstatus, hconfig⟩ := hresponse body cs rfl
    refine decodePacket_wireStatusResponse (fun h => hstatus ?_) fun b m c h => hconfig b m c ?_
    · rw [hencode rfl, hencode rfl, h]
    · rw [hencode rfl, hencode rfl, h]
  | wireDataStdData n id p e | wireDataStdRemote n id p e | wireDataExtData n id p e | wireDataExtRemote n id p e =>
    obtain ⟨-, hp, -⟩ := wellFormedData_iff.mp hwf
    refine (decodePacket_dataPacket _ _ n e (by simp [idWidth]) hp).trans ?_
    simp only [hslice]
  | _ => cases hi

/-! ### The packets the block builds (R110, R114, R116) -/

/-- The bytes below a place and the next one above: one step of reading an identifier back. -/
theorem setWidth_extractLsb'_cons {w : Nat} (x : BitVec w) (a m : Nat) :
    ((x.extractLsb' (a + 8) m).setWidth w <<< 8) ||| (x.extractLsb' a 8).setWidth w = (x.extractLsb' a (m + 8)).setWidth w := by
  apply BitVec.eq_of_getLsbD_eq
  intro i hi
  obtain hlt | hge := Nat.lt_or_ge i 8
  · simp [hi, hlt, Nat.lt_add_left m hlt]
  · have hiff : i - 8 < m ↔ i < m + 8 := by omega
    simp [hi, hge, hiff, show a + 8 + (i - 8) = a + i by omega]

theorem idValueLE_singleton (b : Byte) : idValueLE [b] = b.setWidth 32 := by simp [idValueLE]

theorem idValueLE_cons (b : Byte) (bs : List Byte) : idValueLE (b :: bs) = (idValueLE bs <<< 8) ||| b.setWidth 32 := rfl

theorem idValueLE_idBytesLE (id : BitVec 32) (k : IdKind) :
    idValueLE (idBytesLE id k) = (id.extractLsb' 0 (8 * idWidth k)).setWidth 32 := by
  have hcons := setWidth_extractLsb'_cons id
  cases k with
  | standard =>
    rw [idBytesLE, idValueLE_cons, idValueLE_singleton]
    exact hcons 0 8
  | extended =>
    rw [idBytesLE, idValueLE_cons, idValueLE_cons, idValueLE_cons, idValueLE_singleton]
    simp only [idByte, Nat.reduceMul, idWidth]
    rw [hcons 16 8, hcons 8 16, hcons 0 24]

/-- A legal identifier has no bit above the bytes it has on the wire. -/
theorem setWidth_extractLsb'_of_le_idMask {k : IdKind} {id : BitVec 32} (h : id ≤ idMask k) :
    (id.extractLsb' 0 (8 * idWidth k)).setWidth 32 = id := by
  apply BitVec.eq_of_toNat_eq
  cases k with
  | standard =>
    have hlt : id.toNat ≤ 0x7FF := h
    simp [idWidth]
    omega
  | extended => simp [idWidth]

/-- The bytes of a legal identifier give it back, in either order (00_scope.md R16). -/
theorem idValue_idBytes (o : IdOrder) {k : IdKind} {id : BitVec 32} (h : id ≤ idMask k) : idValue o (idBytes o k id) = id := by
  have hle : idValueLE (idBytesLE id k) = id := by rw [idValueLE_idBytesLE, setWidth_extractLsb'_of_le_idMask h]
  cases o with
  | le => exact hle
  | be => rw [idBytes, idValue, List.reverse_reverse, hle]

theorem wellFormed_wireConfig_of_baudLegal {baud : BitVec 4} (mode : OpMode) (h : baudLegal baud = true) :
    ∃ cs, WellFormed (.wireConfig (baud.setWidth 8) mode cs) = true ∧
      encode (.wireConfig (baud.setWidth 8) mode cs) = .packet (configPacket baud mode) := by
  have hbaud : 1 ≤ baud.setWidth 8 ∧ baud.setWidth 8 ≤ 12 := by decide +revert
  refine ⟨checksum (packetBody (configPacket baud mode)), ?_, rfl⟩
  simp only [WellFormed, Bool.and_eq_true, decide_eq_true_eq, beq_iff_eq]
  exact ⟨hbaud, rfl⟩

theorem exists_vector_toList {n : Nat} {bs : List Byte} (h : bs.length = n) : ∃ v : Vector Byte n, v.toList = bs :=
  ⟨⟨bs.toArray, by simpa using h⟩, rfl⟩

/-- Settles O9: the bytes of a legal identifier give it back, so the packet of a legal frame is well formed. -/
theorem builtPacketsAreTableRows : Obligations.BuiltPacketsAreTableRows := by
  refine ⟨fun baud mode => wellFormed_wireConfig_of_baudLegal mode, by decide, fun f hv hf => ?_⟩
  obtain ⟨hlen, hid⟩ := hf hv
  obtain ⟨valid, id, ide, rtr, len, data⟩ := f
  have hpay : (data.toList.take len.toNat).length = len.toNat := by
    simpa using (show len.toNat ≤ 8 from hlen)
  obtain ⟨v, hv⟩ := exists_vector_toList (idBytes_length Config.params.idOrder ide id)
  have hwf : wellFormedData ide len v.toList (data.toList.take len.toNat) endMarker = true :=
    wellFormedData_iff.mpr ⟨hlen, hpay, rfl, by rw [hv, idValue_idBytes _ hid]; exact hid⟩
  rw [encodePacket_eq_dataPacket, ← hv]
  cases ide <;> cases rtr
  · exact ⟨.wireDataStdData len v _ _, hwf, rfl, v, _, rfl⟩
  · exact ⟨.wireDataStdRemote len v _ _, hwf, rfl, v, _, rfl⟩
  · exact ⟨.wireDataExtData len v _ _, hwf, rfl, v, _, rfl⟩
  · exact ⟨.wireDataExtRemote len v _ _, hwf, rfl, v, _, rfl⟩

/-! ### A status response that arrives (R115) -/

section

variable (s : State) (p q : List Byte) (n : Nat)

/-- What the transport answers after a packet is built and written is the answer after the next one. -/
theorem afterWrite_loadTx_draw : ((s.loadTx p).afterWrite q).draw = s.afterDraw.draw :=
  State.draw_congr (by simp) (by simp)

theorem afterWrite_loadTx_readAnswer : ((s.loadTx p).afterWrite q).readAnswer n = s.afterDraw.readAnswer n :=
  State.readAnswer_congr (afterWrite_loadTx_draw s p q) (by simp) n

theorem afterRead_afterWrite_loadTx_unread :
    (((s.loadTx p).afterWrite q).afterRead n).unread = (s.afterDraw.afterRead n).unread := by
  simp [State.available, afterWrite_loadTx_draw]

theorem afterRead_afterWrite_loadTx_answers :
    (((s.loadTx p).afterWrite q).afterRead n).answers = s.afterDraw.afterDraw.answers := by
  obtain ⟨hanswers, -⟩ := State.afterDraw_congr (s := (s.loadTx p).afterWrite q) (t := s.afterDraw) (by simp) (by simp)
  rw [State.afterRead_answers, hanswers]

end

/-- `POLL_STATUS` up to the response it reads (44_session.md R250). -/
theorem pollWith_of_read {P : Params} {s : State} {d : List Byte} (hready : s.sessState = .ready) (herr : s.draw.err = false)
    (hcount : 20 ≤ s.draw.count) (hread : s.afterDraw.readAnswer 20 = some d) :
    pollWith P s = takeStatus P d (((s.loadTx statusPacket).afterWrite statusPacket).afterRead 20) := by
  have hbytes : (s.loadTx statusPacket).txBytes = statusPacket := State.loadTx_txBytes _ _ statusPacket_length.le
  have hwrite : (s.loadTx statusPacket).writeAnswer statusPacket = some 20 := by simp [State.writeAnswer, herr, hcount]
  rw [pollWith, if_neg (not_not.mpr hready)]
  dsimp only
  rw [hbytes, hwrite]
  dsimp only
  rw [if_neg (lt_irrefl 20), afterWrite_loadTx_readAnswer, hread]

/-- The three conditions on a response (42_command_packets.md R186). -/
theorem validateResponse_eq_ok {buf : Vector Byte 20} {d : List Byte} (hbuf : buf.toList = d) (h0 : d[0]? = some 0xAA)
    (h1 : d[1]? = some 0x55) (hcs : d[19]? = some (checksum (packetBody d))) : validateResponse buf 20 = .ok := by
  subst hbuf
  simp only [Vector.getElem?_toList, Vector.getElem?_eq_getElem, Nat.reduceLT, Option.some.injEq] at h0 h1 hcs
  simp [validateResponse, h0, h1, hcs]

/-- A valid response is kept and its flags are taken (44_session.md R250, R252). -/
theorem takeStatus_of_valid {P : Params} {d : List Byte} {s : State} (hlen : d.length = 20) (h0 : d[0]? = some 0xAA)
    (h1 : d[1]? = some 0x55) (hcs : d[19]? = some (checksum (packetBody d))) : Ends (fun t =>
      t.statusFlags = d.getD P.flagsOff 0 ∧ t.lastResponse = some ⟨.ok, t.stateView, 0⟩ ∧ t.unread = s.unread ∧
        t.answers = s.answers) (takeStatus P d s) := by
  have hbuf : (s.loadRx d).rxbuf.toList = d := overlay_toList d s.rxbuf hlen
  rw [takeStatus, if_neg (by omega), if_neg (not_not.mpr (validateResponse_eq_ok hbuf h0 h1 hcs))]
  refine ⟨_, rfl, ?_, rfl, rfl, rfl⟩
  dsimp only [parseStatus]
  rw [hbuf]

theorem pollWith_of_valid {P : Params} {s : State} {d : List Byte} (hready : s.sessState = .ready) (herr : s.draw.err = false)
    (hcount : 20 ≤ s.draw.count) (hread : s.afterDraw.readAnswer 20 = some d) (hlen : d.length = 20) (h0 : d[0]? = some 0xAA)
    (h1 : d[1]? = some 0x55) (hcs : d[19]? = some (checksum (packetBody d))) : Ends (fun t =>
      t.statusFlags = d.getD P.flagsOff 0 ∧ t.lastResponse = some ⟨.ok, t.stateView, 0⟩ ∧
        t.unread = (s.afterDraw.afterRead 20).unread ∧ t.answers = s.afterDraw.afterDraw.answers) (pollWith P s) := by
  rw [pollWith_of_read hready herr hcount hread, ← afterRead_afterWrite_loadTx_unread s statusPacket statusPacket,
    ← afterRead_afterWrite_loadTx_answers s statusPacket statusPacket 20]
  exact takeStatus_of_valid hlen h0 h1 hcs

/-- What is unread comes first when it is read, and what the adapter sent meanwhile stays behind it (20_memory.md R92). -/
theorem readAnswer_unread {s : State} {n : Nat} (herr : s.draw.err = false) (hcount : n ≤ s.draw.count) (hlost : s.draw.lost = 0)
    (hn : s.unread.length = n) : s.readAnswer n = some s.unread ∧ (s.afterRead n).unread = s.draw.arrived := by
  subst hn
  simp [State.readAnswer, State.available, herr, hlost, hcount]

/-- The last byte of a well-formed status response is the checksum of the 17 before it (30_encoding.md R115). -/
theorem wireBytes_wireStatusResponse_checksum {body : Vector Byte 17} {cs : Byte}
    (h : WellFormed (.wireStatusResponse body cs) = true) : (wireBytes (.wireStatusResponse body cs))[19]? =
      some (checksum (packetBody (wireBytes (.wireStatusResponse body cs)))) := by
  have hcs : cs = checksum body.toList := by simpa [WellFormed] using h
  have hbody : packetBody (wireBytes (.wireStatusResponse body cs)) = body.toList := by simp [packetBody, wireBytes]
  rw [hbody, ← hcs]
  simp [wireBytes]

theorem wireBytes_wireStatusResponse_getD (body : Vector Byte 17) (cs : Byte) {j : Nat} (h : 2 ≤ j ∧ j ≤ 18) :
    (wireBytes (.wireStatusResponse body cs)).getD j 0 = body.toList.getD (j - 2) 0 := by
  obtain ⟨i, rfl⟩ := Nat.exists_eq_add_of_le' h.1
  have hi : i < 17 := by omega
  simp [wireBytes, hi, List.getElem?_append]

theorem execAll_pair {i j : Instr} {s u t : State} (hi : exec i s = .next u) (hj : exec j u = .next t) :
    execAll [i, j] s = .next t := by
  simp [execAll, hi, hj]

/-- Settles O58: the response is all that is unread, so the poll reads it whole, and its checksum is right. -/
theorem arrivedStatusResponseIsPolled : Obligations.ArrivedStatusResponseIsPolled := by
  intro s body cs w r ds hready hunread hanswers hw hwcount hr hrcount hrlost hwf
  generalize hd : wireBytes (.wireStatusResponse body cs) = d
  have hlen : d.length = 20 := by simp [← hd, wireBytes]
  have hwrite : (s.arrive d).draw = w := by simp [State.draw, hanswers]
  have hrest : (s.arrive d).afterDraw.answers = r :: ds := by simp [State.afterDraw, hanswers]
  have hdraw : (s.arrive d).afterDraw.draw = r := by simp [State.draw, hrest]
  have hstream : (s.arrive d).afterDraw.unread = d := by simp [hunread]
  obtain ⟨hread, harrived⟩ := readAnswer_unread (s := (s.arrive d).afterDraw) (n := 20) (by rw [hdraw, hr])
    (by rwa [hdraw]) (by rw [hdraw, hrlost]) (by rw [hstream, hlen])
  rw [hstream] at hread
  obtain ⟨t, hpoll, hflags, hlast, htunread, htanswers⟩ := pollWith_of_valid (P := Config.params) (s := s.arrive d) hready
    (by rw [hwrite, hw]) (by rwa [hwrite]) hread hlen (hd ▸ rfl) (hd ▸ rfl) (hd ▸ wireBytes_wireStatusResponse_checksum hwf)
  have hoff : 3 ≤ Config.params.flagsOff ∧ Config.params.flagsOff ≤ 18 := Config.params_offsetsLegal.1
  refine ⟨t, execAll_pair (hd ▸ rfl) hpoll, ?_, hlast, ?_, ?_⟩
  · rw [hflags, ← hd, wireBytes_wireStatusResponse_getD body cs (by omega)]
  · rw [htunread, harrived, hdraw]
  · rw [htanswers]
    simp [State.afterDraw, hanswers]

end Sys2Proof.Machine
end

section
/-! Proofs: the checksum unit (40_checksum.md): the checksum as a sum of bytes (R140, R141), the three commands (R142 to R146),
and the accumulator they share (R149). -/

namespace Sys2Proof.Machine

/-! ### The checksum is the sum of the bytes (R140, R141) -/

/-- The accumulator `a` after the bytes `bs` are added to it in order (40_checksum.md R144). -/
def accumulate (a : BitVec 16) (bs : List Byte) : BitVec 16 := bs.foldl (fun acc b => acc + b.setWidth 16) a

@[simp] theorem accumulate_nil (a : BitVec 16) : accumulate a [] = a := rfl

@[simp] theorem accumulate_cons (a : BitVec 16) (b : Byte) (bs : List Byte) :
    accumulate a (b :: bs) = accumulate (a + b.setWidth 16) bs := rfl

theorem checksum_eq_accumulate (bs : List Byte) : checksum bs = (accumulate 0 bs).extractLsb' 0 8 := rfl

/-- The low byte of the accumulator moves by the sum of the bytes: what is carried out of it never comes back. -/
theorem setWidth_accumulate (a : BitVec 16) (bs : List Byte) :
    (accumulate a bs).setWidth 8 = a.setWidth 8 + bs.sum := by
  induction bs generalizing a with
  | nil => simp
  | cons b bs ih =>
    have hbyte : (b.setWidth 16).setWidth 8 = b := by simp
    rw [accumulate_cons, ih, BitVec.setWidth_add _ _ (by decide), hbyte, List.sum_cons, add_assoc]

/-- The checksum is the sum of the bytes as bytes, so the laws of a commutative group hold of it. -/
theorem checksum_eq_sum (bs : List Byte) : checksum bs = bs.sum := by
  rw [checksum_eq_accumulate, ← BitVec.setWidth_eq_extractLsb' (by decide), setWidth_accumulate]
  simp

theorem toNat_sum_bytes (bs : List Byte) : bs.sum.toNat = (bs.map BitVec.toNat).sum % 256 := by
  induction bs with
  | nil => rfl
  | cons b bs ih => simp [BitVec.toNat_add, ih]

/-- Settles O23: the sum of bytes as bytes is their sum modulo 256. -/
theorem checksumIsTheSumModulo256 : Obligations.ChecksumIsTheSumModulo256 :=
  ⟨fun bs => by rw [checksum_eq_sum, toNat_sum_bytes], rfl⟩

/-- Settles O24: each part is a law of sums of bytes. -/
theorem checksumIgnoresTheOrder : Obligations.ChecksumIgnoresTheOrder := by
  refine ⟨fun as bs h => ?_, fun as bs b d => ?_, fun as bs cs b c d => ?_⟩
  · rw [checksum_eq_sum, checksum_eq_sum, h.sum_eq]
  · simp only [checksum_eq_sum, List.sum_append, List.sum_cons]
    ring
  · simp only [checksum_eq_sum, List.sum_append, List.sum_cons]
    ring

/-! ### The three commands (R142, R144, R146) -/

theorem exec_csumClr (s : State) :
    exec .csumClr s = .next { s with csumAcc := 0, responses := ⟨.ok, 0, 0⟩ :: s.responses } := rfl

theorem exec_csumAdd (b : Byte) (s : State) : exec (.csumAdd b) s =
    .next { s with csumAcc := s.csumAcc + b.setWidth 16, responses := ⟨.ok, 0, 0⟩ :: s.responses } := rfl

theorem exec_csumRd (s : State) : exec .csumRd s =
    .next { s with responses := ⟨.ok, (s.csumAcc.extractLsb' 0 8).setWidth 32, 0⟩ :: s.responses } := rfl

theorem encode_csumAdd (b : Byte) : encode (.csumAdd b) = .command (b.setWidth 128 <<< 24 ||| 0x2) := by
  simp [encode, Instr.isCommand, wordOfFields, fieldsOf, place, BitVec.or_comm]

/-- Settles O25. -/
theorem csumClrClearsTheAccumulator : Obligations.CsumClrClearsTheAccumulator :=
  ⟨by decide, refusesOtherFields .csumClr, exec_csumClr⟩

/-- Settles O26: the byte keeps its value when it is widened. -/
theorem csumAddAddsTheByte : Obligations.CsumAddAddsTheByte := by
  refine ⟨encode_csumAdd, refusesOtherFields .csumAdd, fun s b => ⟨s.csumAcc + b.setWidth 16, ?_, exec_csumAdd b s⟩⟩
  rw [BitVec.toNat_add, BitVec.toNat_setWidth_of_le (by decide)]

/-- Settles O27: the low byte keeps its value when it is widened. -/
theorem csumRdReturnsTheLowByte : Obligations.CsumRdReturnsTheLowByte := by
  refine ⟨by decide, refusesOtherFields .csumRd, fun s => ⟨_, ?_, exec_csumRd s⟩⟩
  rw [BitVec.toNat_setWidth_of_le (by decide), BitVec.extractLsb'_toNat]
  rfl

/-! ### The accumulator between a clear and a read (R149) -/

theorem execAll_cons {i : Instr} {is : List Instr} {s t : State} (h : exec i s = .next t) :
    execAll (i :: is) s = execAll is t := by
  simp only [execAll, h]

/-- Adding bytes in order accumulates them, with one response each. -/
theorem execAll_csumAdd_append (bs : List Byte) (is : List Instr) (s : State) :
    execAll (bs.map Instr.csumAdd ++ is) s = execAll is { s with
      csumAcc := accumulate s.csumAcc bs, responses := List.replicate bs.length ⟨.ok, 0, 0⟩ ++ s.responses } := by
  induction bs generalizing s with
  | nil => rfl
  | cons b bs ih =>
    rw [List.map_cons, List.cons_append, execAll_cons (exec_csumAdd b s), ih, List.length_cons, List.replicate_succ',
      List.append_assoc]
    rfl

/-- Settles O28: what is read is the low byte of what the added bytes make of a cleared accumulator. -/
theorem accumulatorComputesTheChecksum : Obligations.AccumulatorComputesTheChecksum := by
  intro bs s
  rw [pseudoCsum, execAll_cons (exec_csumClr s), execAll_csumAdd_append, execAll_cons (exec_csumRd _)]
  exact ⟨_, rfl, rfl, rfl⟩

end Sys2Proof.Machine
end

section
/-! Proofs: the frame registers (41_frame.md): construction (R160, R170), the three reads (R162 to R166), and the write of one
payload byte (R168). -/

namespace Sys2Proof.Machine

/-! ### Construction (R160, R170) -/

section
variable (s : State) {k : IdKind} (r : FrameKind) {n : BitVec 4} {id : BitVec 32} (d : BitVec 64)

theorem exec_frameNew_tooMuchPayload (k : IdKind) (id : BitVec 32) (hlen : 8 < n) :
    exec (.frameNew k r n id d) s = .next { s with responses := ⟨.tooMuchPayload, 0, 0⟩ :: s.responses } :=
  if_pos hlen

theorem exec_frameNew_identifierOutOfRange (hlen : n ≤ 8) (hid : idMask k < id) :
    exec (.frameNew k r n id d) s = .next { s with responses := ⟨.identifierOutOfRange, 0, 0⟩ :: s.responses } :=
  (if_neg (BitVec.not_lt.mpr hlen)).trans (if_pos hid)

theorem exec_frameNew_ok (hlen : n ≤ 8) (hid : id ≤ idMask k) :
    exec (.frameNew k r n id d) s = .next { s with
      txf := { valid := true, id := id, ide := k, rtr := r, len := n, data := padPayload n.toNat (dataByte d) }
      responses := ⟨.ok, 0, 0⟩ :: s.responses } :=
  (if_neg (BitVec.not_lt.mpr hlen)).trans (if_neg (BitVec.not_lt.mpr hid))

end

/-- Settles O29: the length is checked before the identifier, and the payload is padded with zeros. -/
theorem frameNewConstructsOrRefuses : Obligations.FrameNewConstructsOrRefuses := by
  refine ⟨fun _ _ _ _ _ => rfl, refusesOtherFields .frameNew, fun s k r n id d => ⟨fun hlen => ?_, fun hlen hid => ?_,
    fun hlen hid => ⟨padPayload n.toNat (dataByte d), fun j => ?_, ?_⟩⟩⟩
  · exact exec_frameNew_tooMuchPayload s r d k id hlen
  · exact exec_frameNew_identifierOutOfRange s r d hlen hid
  · exact padPayload_getElem n.toNat (dataByte d) j j.isLt
  · exact exec_frameNew_ok s r d hlen hid

/-- Settles O30: the limits are the masks of the two kinds and the length 8. -/
theorem constructionLimits : Obligations.ConstructionLimits := fun s r d =>
  ⟨fun _ _ hlen hid => ⟨_, exec_frameNew_ok s r d hlen hid, rfl, rfl⟩,
    fun _ hlen => ⟨_, exec_frameNew_identifierOutOfRange s r d hlen (by decide), rfl⟩,
    fun _ _ hlen hid => ⟨_, exec_frameNew_ok s r d hlen hid, rfl, rfl⟩,
    fun _ hlen => ⟨_, exec_frameNew_identifierOutOfRange s r d hlen (by decide), rfl⟩,
    fun k id => ⟨_, exec_frameNew_tooMuchPayload s r d k id (by decide), rfl⟩⟩

/-! ### The three reads (R162, R164, R166) -/

theorem and_idMask_of_le {k : IdKind} {id : BitVec 32} (h : id ≤ idMask k) : id &&& idMask k = id := by
  apply BitVec.eq_of_toNat_eq
  cases k with
  | standard => exact Nat.and_two_pow_sub_one_of_lt_two_pow (n := 11) (Nat.lt_succ_of_le h)
  | extended => exact Nat.and_two_pow_sub_one_of_lt_two_pow (n := 29) (Nat.lt_succ_of_le h)

theorem toNat_metaView (f : FrameReg) :
    f.metaView.toNat = f.len.toNat + 2 ^ 4 * f.rtr.bit.toNat + 2 ^ 5 * f.ide.bit.toNat := by
  have hlen := toNat_place 32 0 f.len (by decide)
  have hmeta : f.metaView = place 32 0 f.len ||| place 32 4 f.rtr.bit ||| place 32 5 f.ide.bit := by
    rw [FrameReg.metaView, BitVec.or_comm, BitVec.or_comm (place 32 5 _), BitVec.or_assoc]
  have hrtr : (place 32 0 f.len ||| place 32 4 f.rtr.bit).toNat = f.len.toNat + 2 ^ 4 * f.rtr.bit.toNat := by
    rw [toNat_or_place 4 _ _ (by decide) (by omega), hlen, pow_zero, Nat.one_mul]
  rw [hmeta, toNat_or_place 5 _ _ (by decide) (by omega), hrtr]

theorem packData_extractLsb' (v : Vector Byte 8) (j : Fin 8) : (packData v).extractLsb' (8 * j.val) 8 = v[j] := by
  fin_cases j <;> simp [packData, BitVec.extractLsb'_or, extractLsb'_place_disjoint]

section
variable (s : State) (sel : FrameSel)

theorem exec_frameRdId : exec (.frameRdId sel) s = withFrame s sel fun f => s.succeed (f.id &&& idMask f.ide) 0 := rfl

theorem exec_frameRdMeta : exec (.frameRdMeta sel) s = withFrame s sel fun f => s.succeed f.metaView 0 := rfl

theorem exec_frameRdData : exec (.frameRdData sel) s =
    withFrame s sel fun f => s.succeed (f.len.setWidth 32) (packData f.data) := rfl

end

/-- Settles O31: a read gives its view of the frame that the register holds, or fails when it holds none. -/
theorem frameReadsReturnTheFields : Obligations.FrameReadsReturnTheFields := by
  refine ⟨fun _ => ⟨rfl, rfl, rfl⟩, refusesOtherFields .frameRdId, refusesOtherFields .frameRdMeta,
    refusesOtherFields .frameRdData, fun s sel => ⟨fun hv => ?_, fun hv => ?_, fun hv hlegal => ?_⟩⟩
  · refine ⟨(s.frame sel).metaView, packData (s.frame sel).data, toNat_metaView _, packData_extractLsb' _, ?_⟩
    simp only [exec_frameRdId, exec_frameRdMeta, exec_frameRdData, withFrame_valid hv, State.succeed_eq, and_self]
  · simp only [exec_frameRdId, exec_frameRdMeta, exec_frameRdData, withFrame_invalid hv, State.raise_eq, and_self]
  · obtain ⟨-, hid⟩ := hlegal hv
    exact and_idMask_of_le hid

/-! ### The write of one payload byte (R168) -/

section
variable (s : State) (sel : FrameSel) {idx : BitVec 5} (b : Byte)

theorem exec_frameWrByte_illegalCommand (h : 7 < idx) :
    exec (.frameWrByte sel idx b) s = .next { s with responses := ⟨.illegalCommand, 0, 0⟩ :: s.responses } :=
  if_pos h

/-- A legal `IDX` leaves the decision to the register. -/
theorem exec_frameWrByte_legal (h : idx ≤ 7) : exec (.frameWrByte sel idx b) s = withFrame s sel fun f =>
    (s.setFrame sel { f with data := f.data.setIfInBounds idx.toNat b }).succeed 0 0 :=
  if_neg (BitVec.not_lt.mpr h)

end

/-- Settles O32: `IDX` is checked before the register, and the write changes the byte at `IDX` alone. -/
theorem frameWrByteWritesOneByte : Obligations.FrameWrByteWritesOneByte := by
  refine ⟨fun _ _ _ => rfl, refusesOtherFields .frameWrByte, fun s sel idx b => ⟨fun h => ?_, fun h hv => ?_,
    fun h hv => ⟨(s.frame sel).data.setIfInBounds idx.toNat b, fun j => ?_, ?_⟩⟩⟩
  · exact exec_frameWrByte_illegalCommand s sel b h
  · rw [exec_frameWrByte_legal s sel b h, withFrame_invalid hv, State.raise_eq]
  · simp [Vector.getElem_setIfInBounds, eq_comm]
  · rw [exec_frameWrByte_legal s sel b h, withFrame_valid hv, State.succeed_eq, State.setFrame_responses]

end Sys2Proof.Machine
end

section
/-! Proofs: the 20-byte packets (42_command_packets.md): the two packets the block builds (R180 to R184) and the validator of the
receive buffer (R186, R188). -/

namespace Sys2Proof.Machine

/-! ### The configuration packet (R180 to R182) -/

theorem baudLegal_eq_true {baud : BitVec 4} : baudLegal baud = true ↔ 1 ≤ baud.toNat ∧ baud.toNat ≤ 12 := by
  simp [baudLegal, BitVec.le_def]

theorem configPacket_checksum (baud : BitVec 4) (mode : OpMode) :
    (configPacket baud mode)[19]? = some (checksum (packetBody (configPacket baud mode))) := rfl

/-- The fixed bytes of the body add up to `0x15`; the largest baud code and mode do not carry past a byte (R182). -/
theorem toNat_checksum_configPacket (baud : BitVec 4) (mode : OpMode) :
    (checksum (packetBody (configPacket baud mode))).toNat = 0x15 + baud.toNat + mode.code.toNat := by
  have hbody : packetBody (configPacket baud mode) =
      [0x12, baud.setWidth 8, 0x02, 0, 0, 0, 0, 0, 0, 0, 0, mode.code.setWidth 8, 0x01, 0, 0, 0, 0] := rfl
  have hbaud : (baud.setWidth 8).toNat = baud.toNat := BitVec.toNat_setWidth_of_le (by decide)
  have hmode : (mode.code.setWidth 8).toNat = mode.code.toNat := BitVec.toNat_setWidth_of_le (by decide)
  rw [checksum_eq_sum, hbody, toNat_sum_bytes]
  simp only [List.map_cons, List.map_nil, List.sum_cons, List.sum_nil, hbaud, hmode, BitVec.reduceToNat]
  omega

/-- Settles O34: the checksum's value bounds it, since a mode's code is at most 3. -/
theorem configChecksumValue : Obligations.ConfigChecksumValue := by
  refine ⟨fun baud mode hlo hhi => ?_, by decide⟩
  have hvalue := toNat_checksum_configPacket baud mode
  exact ⟨_, configPacket_checksum baud mode, hvalue, by omega, by omega⟩

section
variable (s : State) {baud : BitVec 4} (mode : OpMode)

theorem exec_buildConfig_legal (h : baudLegal baud = true) : exec (.buildConfig baud mode) s =
    .next { s with txbuf := overlay (configPacket baud mode) s.txbuf, txlen := 20, responses := ⟨.ok, 20, 0⟩ :: s.responses } :=
  if_pos h

theorem exec_buildConfig_illegalCommand (h : baudLegal baud = false) : exec (.buildConfig baud mode) s =
    .next { s with responses := ⟨.illegalCommand, 0, 0⟩ :: s.responses } :=
  if_neg (Bool.eq_false_iff.mp h)

end

/-- Settles O33: the packet fills `TXBUF`, and it is sealed with the checksum of its body. -/
theorem buildConfigBuildsThePacket : Obligations.BuildConfigBuildsThePacket := by
  refine ⟨fun _ _ => rfl, refusesOtherFields .buildConfig, fun s baud mode => ⟨fun hlo hhi => ?_, fun hbaud => ?_⟩⟩
  · have hbuf : (overlay (configPacket baud mode) s.txbuf).toList = configPacket baud mode :=
      overlay_toList _ _ (configPacket_length baud mode)
    refine ⟨overlay (configPacket baud mode) s.txbuf, checksum (packetBody (configPacket baud mode)), hbuf, ?_,
      exec_buildConfig_legal s mode (baudLegal_eq_true.mpr ⟨hlo, hhi⟩)⟩
    rw [hbuf]
    rfl
  · exact exec_buildConfig_illegalCommand s mode (baudLegal_eq_false.mpr (hbaud.imp_left BitVec.eq_of_toNat_eq))

/-! ### The status packet (R183, R184) -/

theorem exec_buildStatus (s : State) : exec .buildStatus s = .next { s with
    txbuf := overlay statusPacket s.txbuf, txlen := 20, responses := ⟨.ok, 20, 0⟩ :: s.responses } := rfl

/-- Settles O35: the packet fills `TXBUF`. -/
theorem buildStatusBuildsThePacket : Obligations.BuildStatusBuildsThePacket :=
  ⟨by decide, refusesOtherFields .buildStatus, fun s =>
    ⟨overlay statusPacket s.txbuf, overlay_toList _ _ statusPacket_length, exec_buildStatus s⟩⟩

/-! ### The validator (R186, R188) -/

section
variable {buf : Vector Byte 20} {n : Nat}

theorem validateResponse_malformed (h : n ≠ 20 ∨ buf[0] ≠ 0xAA ∨ buf[1] ≠ 0x55) :
    validateResponse buf n = .packetMalformed := by
  unfold validateResponse
  obtain hlen | hhead := h
  · exact if_pos hlen
  · rw [if_pos hhead, ite_self]

/-- Behind a right length and header the checksum decides. -/
theorem validateResponse_of_header (hlen : n = 20) (h0 : buf[0] = 0xAA) (h1 : buf[1] = 0x55) : validateResponse buf n =
    if buf[19] ≠ checksum (packetBody buf.toList) then .checksumMismatch else .ok := by
  rw [validateResponse, if_neg (not_not.mpr hlen), if_neg (by simp [h0, h1])]

end

theorem exec_checkPkt_of_ne_ok {s : State} {e : ResultCode} (h : validateResponse s.rxbuf s.rxlen.toNat = e) (he : e ≠ .ok) :
    exec .checkPkt s = .next { s with responses := ⟨e, 0, 0⟩ :: s.responses } := by
  subst h
  exact if_neg he

theorem exec_checkPkt_of_ok {s : State} (h : validateResponse s.rxbuf s.rxlen.toNat = .ok) : exec .checkPkt s =
    .next { s with responses := ⟨.ok, (checksum (packetBody s.rxbuf.toList)).setWidth 32, 0⟩ :: s.responses } :=
  if_pos h

/-- Settles O36: the command answers what the validator says of the receive buffer. -/
theorem checkPktValidatesTheReceiveBuffer : Obligations.CheckPktValidatesTheReceiveBuffer := by
  refine ⟨by decide, refusesOtherFields .checkPkt, fun s => ⟨fun hbad => ?_, fun hlen h0 h1 hcs => ?_,
    fun hlen h0 h1 hcs => ?_⟩⟩
  · exact exec_checkPkt_of_ne_ok (validateResponse_malformed hbad) (by decide)
  · exact exec_checkPkt_of_ne_ok ((validateResponse_of_header hlen h0 h1).trans (if_pos hcs)) (by decide)
  · rw [hcs]
    exact exec_checkPkt_of_ok ((validateResponse_of_header hlen h0 h1).trans (if_neg (not_not.mpr hcs)))

end Sys2Proof.Machine
end

section
/-! Proofs: the data frame (43_data_frame.md): decoding a byte sequence (R212) and an encoded packet (R214), and the commands of
the transmit and receive buffers (R200 to R210). -/

namespace Sys2Proof.Machine

/-! ### Decoding a byte sequence (R212) -/

/-- The frame that the bytes of a well-framed packet give, its identifier not judged (43_data_frame.md R212). -/
def decodedFrame (P : Params) (bs : List Byte) : FrameReg :=
  let c := bs.getD 1 0
  let w := idWidth (kindOfControl c)
  { valid := true, id := idValue P.idOrder ((bs.drop 2).take w), ide := kindOfControl c, rtr := .ofBit (c.extractLsb' 4 1)
    len := dlcOfControl c, data := padPayload (dlcOfControl c).toNat fun j => bs.getD (2 + w + j) 0 }

theorem controlBad_eq_false {P : Params} {c : Byte} :
    controlBad P c = false ↔ (P.markerCheck = true → c.extractLsb' 6 2 = 3) ∧ dlcOfControl c ≤ 8 := by
  simp [controlBad]

theorem getD_cons_cons {b c : Byte} {bs : List Byte} {i : Nat} : (b :: c :: bs).getD (2 + i) 0 = bs.getD i 0 := by
  rw [show 2 + i = i + 1 + 1 by omega, List.getD_cons_succ, List.getD_cons_succ]

/-- The end marker is not the byte read where there is none. -/
theorem getD_eq_endMarker {bs : List Byte} {i : Nat} : bs.getD i 0 = endMarker ↔ bs[i]? = some endMarker := by
  rw [List.getD_eq_getElem?_getD]
  cases bs[i]? with
  | none => decide
  | some b => simp

/-- `WellFramed` in the terms of the decoder's checks. -/
theorem wellFramed_cons_cons {P : Params} {b c : Byte} {rest : List Byte} : WellFramed P (b :: c :: rest) ↔
    b = startMarker ∧ controlBad P c = false ∧ packetLength c ≤ (b :: c :: rest).length ∧
      rest.getD (idWidth (kindOfControl c) + (dlcOfControl c).toNat) 0 = endMarker := by
  have hlast : (b :: c :: rest)[packetLength c - 1]? = rest[idWidth (kindOfControl c) + (dlcOfControl c).toNat]? := by
    rw [packetLength, show 3 + idWidth (kindOfControl c) + (dlcOfControl c).toNat - 1 =
      idWidth (kindOfControl c) + (dlcOfControl c).toNat + 1 + 1 by omega, List.getElem?_cons_succ, List.getElem?_cons_succ]
  rw [controlBad_eq_false, getD_eq_endMarker, ← hlast]
  constructor
  · rintro ⟨c', hstart, hc, hmarker, hdlc, hlen, hend⟩
    obtain rfl : c = c' := by simpa using hc
    exact ⟨by simpa using hstart, ⟨hmarker, hdlc⟩, hlen, hend⟩
  · rintro ⟨rfl, ⟨hmarker, hdlc⟩, hlen, hend⟩
    exact ⟨c, rfl, rfl, hmarker, hdlc, hlen, hend⟩

theorem WellFramed.exists_cons_cons {P : Params} {bs : List Byte} (h : WellFramed P bs) : ∃ b c rest, bs = b :: c :: rest := by
  obtain ⟨c, h0, h1, -⟩ := h
  match bs with
  | [] => cases h0
  | [b] => cases h1
  | b :: c :: rest => exact ⟨b, c, rest, rfl⟩

theorem decodePacketFrame_of_not_wellFramed {P : Params} {bs : List Byte} (h : ¬ WellFramed P bs) :
    decodePacketFrame P bs = .error .malformedFrame := by
  match bs with
  | [] => rfl
  | [b] => rfl
  | b :: c :: rest =>
    unfold decodePacketFrame
    dsimp only
    refine ite_eq_left_iff.mpr fun hstart => ite_eq_left_iff.mpr fun hbad => ite_eq_left_iff.mpr fun hlen =>
      ite_eq_left_iff.mpr fun hend => absurd (wellFramed_cons_cons.mpr ⟨?_, ?_, ?_, ?_⟩) h
    · exact not_not.mp hstart
    · exact Bool.eq_false_iff.mpr hbad
    · exact Nat.not_lt.mp hlen
    · exact not_not.mp hend

/-- Behind the checks of the framing the identifier decides. -/
theorem decodePacketFrame_of_wellFramed {P : Params} {bs : List Byte} (h : WellFramed P bs) : decodePacketFrame P bs =
    if idMask (decodedFrame P bs).ide < (decodedFrame P bs).id then .error .identifierOutOfRange
    else .ok (decodedFrame P bs, packetLength (bs.getD 1 0)) := by
  obtain ⟨b, c, rest, rfl⟩ := h.exists_cons_cons
  obtain ⟨hstart, hgood, hlen, hend⟩ := wellFramed_cons_cons.mp h
  unfold decodePacketFrame
  dsimp only
  rw [if_neg (not_not.mpr hstart), if_neg (Bool.eq_false_iff.mp hgood), if_neg (Nat.not_lt.mpr hlen),
    if_neg (not_not.mpr hend)]
  simp only [decodedFrame, Nat.add_assoc 2, getD_cons_cons, List.getD_cons_succ, List.getD_cons_zero, List.drop_succ_cons,
    List.drop_zero]

theorem decodedFrame_data_getElem (P : Params) (bs : List Byte) (j : Fin 8) : (decodedFrame P bs).data[j] =
    if j.val < (dlcOfControl (bs.getD 1 0)).toNat then bs.getD (2 + idWidth (kindOfControl (bs.getD 1 0)) + j.val) 0 else 0 := by
  simp [decodedFrame, padPayload]

theorem idWidth_eq_ite (k : IdKind) : idWidth k = if k = .extended then 4 else 2 := by
  cases k <;> rfl

/-- Settles O41: the framing is checked first, then the identifier. -/
theorem decodingAByteSequence : Obligations.DecodingAByteSequence := by
  refine fun P bs => ⟨decodePacketFrame_of_not_wellFramed, fun h => ?_⟩
  simp only [← idWidth_eq_ite]
  refine ⟨fun hid => ?_, fun hid => ⟨(decodedFrame P bs).data, fun j => ?_, ?_⟩⟩
  · exact (decodePacketFrame_of_wellFramed h).trans (if_pos hid)
  · exact decodedFrame_data_getElem P bs j
  · exact (decodePacketFrame_of_wellFramed h).trans (if_neg (BitVec.not_lt.mpr hid))

/-- What is decoded comes from a well-framed packet. -/
theorem wellFramed_of_decodePacketFrame_ok {P : Params} {bs : List Byte} {f : FrameReg} {n : Nat}
    (h : decodePacketFrame P bs = .ok (f, n)) : WellFramed P bs := by
  by_contra hnot
  rw [decodePacketFrame_of_not_wellFramed hnot] at h
  cases h

theorem WellFramed.packetLength_bounds {P : Params} {bs : List Byte} (h : WellFramed P bs) :
    5 ≤ packetLength (bs.getD 1 0) ∧ packetLength (bs.getD 1 0) ≤ 15 := by
  obtain ⟨b, c, rest, rfl⟩ := h.exists_cons_cons
  obtain ⟨-, hgood, -⟩ := wellFramed_cons_cons.mp h
  exact Machine.packetLength_bounds (dlc_le_of_controlBad hgood)

theorem decodePacketFrame_length_bounds {P : Params} {bs : List Byte} {f : FrameReg} {n : Nat}
    (h : decodePacketFrame P bs = .ok (f, n)) : 5 ≤ n ∧ n ≤ 15 := by
  have hframed := wellFramed_of_decodePacketFrame_ok h
  rw [decodePacketFrame_of_wellFramed hframed] at h
  split at h
  · cases h
  · cases h
    exact hframed.packetLength_bounds

/-! ### Decoding an encoded packet (R214) -/

/-- The frame with the payload bytes behind its length zero. -/
def FrameReg.zeroTail (f : FrameReg) : FrameReg := { f with data := padPayload f.len.toNat fun j => f.data.toList.getD j 0 }

theorem FrameReg.zeroTail_data_getElem (f : FrameReg) (j : Fin 8) :
    f.zeroTail.data[j] = if j.val < f.len.toNat then f.data[j] else 0 := by
  simp [FrameReg.zeroTail, padPayload]

theorem FrameReg.zeroTail_data_eq_iff (f : FrameReg) : f.zeroTail.data = f.data ↔ f.TailZero := by
  constructor
  · intro h j hj
    rw [← h, zeroTail_data_getElem, if_neg (Nat.not_lt.mpr hj)]
  · intro h
    ext1 j hj
    have hzero := f.zeroTail_data_getElem ⟨j, hj⟩
    split at hzero
    next => exact hzero
    next hlen => exact hzero.trans (h ⟨j, hj⟩ (Nat.not_lt.mp hlen)).symm

section
variable (P : Params) (f : FrameReg)

@[simp] theorem encodePacket_getD_one : (encodePacket P f).getD 1 0 = controlByte f.ide f.rtr f.len := rfl

theorem kindOfControl_controlByte (k : IdKind) (r : FrameKind) (n : BitVec 4) : kindOfControl (controlByte k r n) = k := by
  rw [kindOfControl, controlByte_ide, IdKind.ofBit_bit]

theorem dlcOfControl_controlByte (k : IdKind) (r : FrameKind) (n : BitVec 4) : dlcOfControl (controlByte k r n) = n :=
  controlByte_dlc k r n

variable {f}

theorem packetLength_controlByte (h : f.len ≤ 8) :
    packetLength (controlByte f.ide f.rtr f.len) = (encodePacket P f).length := by
  rw [packetLength, kindOfControl_controlByte, dlcOfControl_controlByte, encodePacket_length P f h]

theorem encodePacket_getElem?_payload (h : f.len ≤ 8) {j : Nat} (hj : j < f.len.toNat) :
    (encodePacket P f)[2 + idWidth f.ide + j]? = f.data[j]? := by
  have hlen : f.len.toNat ≤ 8 := h
  obtain ⟨-, -, -, -, hpayload, -⟩ := encodedPacketLayout P f hlen
  have hj8 : j < 8 := by omega
  rw [idWidth_eq_ite, hpayload ⟨j, hj8⟩ hj]
  simp [hj8]

theorem wellFramed_encodePacket (h : f.len ≤ 8) : WellFramed P (encodePacket P f) := by
  obtain ⟨-, -, -, -, -, hend⟩ := encodedPacketLayout P f h
  refine ⟨controlByte f.ide f.rtr f.len, rfl, rfl, fun _ => controlByte_marker _ _ _, ?_, ?_, ?_⟩
  · rwa [controlByte_dlc]
  · exact (packetLength_controlByte P h).le
  · rw [packetLength_controlByte P h, encodePacket_length P f h, ← hend, ← idWidth_eq_ite]
    congr 1
    omega

theorem decodedFrame_encodePacket (hv : f.valid = true) (hlen : f.len ≤ 8) (hid : f.id ≤ idMask f.ide) :
    decodedFrame P (encodePacket P f) = f.zeroTail := by
  have hidBytes : ((encodePacket P f).drop 2).take (idWidth f.ide) = idBytes P.idOrder f.ide f.id := by
    have hdrop : (encodePacket P f).drop 2 =
        idBytes P.idOrder f.ide f.id ++ (f.data.toList.take f.len.toNat ++ [endMarker]) := List.append_assoc _ _ _
    rw [hdrop, List.take_left' (idBytes_length _ _ _)]
  have hdata : (padPayload f.len.toNat fun j => (encodePacket P f).getD (2 + idWidth f.ide + j) 0) = f.zeroTail.data := by
    ext1 j hj
    rw [padPayload_getElem _ _ j hj, FrameReg.zeroTail, padPayload_getElem _ _ j hj]
    split
    next hlt =>
      rw [List.getD_eq_getElem?_getD, encodePacket_getElem?_payload P hlen hlt]
      simp
    next => rfl
  simp only [decodedFrame, encodePacket_getD_one, kindOfControl_controlByte, dlcOfControl_controlByte, controlByte_rtr,
    FrameKind.ofBit_bit, hidBytes, idValue_idBytes P.idOrder hid, hdata, ← hv]
  rfl

/-- 43_data_frame.md R214. -/
theorem decodePacketFrame_encodePacket (hv : f.valid = true) (hf : f.Legal) :
    decodePacketFrame P (encodePacket P f) = .ok (f.zeroTail, (encodePacket P f).length) := by
  obtain ⟨hlen, hid⟩ := hf hv
  rw [decodePacketFrame_of_wellFramed (wellFramed_encodePacket P hlen), decodedFrame_encodePacket P hv hlen hid,
    encodePacket_getD_one, packetLength_controlByte P hlen]
  exact if_neg (BitVec.not_lt.mpr hid)

end

/-- Settles O43: what is decoded is the frame with a zero tail. -/
theorem decodeOfEncodedFrameIsTheFrame : Obligations.DecodeOfEncodedFrameIsTheFrame := fun P f hv hf =>
  ⟨f.zeroTail.data, decodePacketFrame_encodePacket P hv hf,
    fun j hj => (f.zeroTail_data_getElem j).trans (if_pos hj), f.zeroTail_data_eq_iff⟩

/-! ### The transmit buffer (R200, R204) -/

theorem exec_encodeFrame (sel : FrameSel) (s : State) : exec (.encodeFrame sel) s = withFrame s sel fun f =>
    (s.loadTx (encodePacket Config.params f)).succeed (BitVec.ofNat 32 (encodePacket Config.params f).length) 0 := rfl

/-- Settles O38: the packet is at most 15 bytes, so all of it stands in `TXBUF`. -/
theorem encodeFillsTheTransmitBuffer : Obligations.EncodeFillsTheTransmitBuffer := by
  refine ⟨fun _ => rfl, refusesOtherFields .encodeFrame, fun s sel => ⟨fun hv => ?_, fun hv hf => ?_⟩⟩
  · rw [exec_encodeFrame, withFrame_invalid hv, State.raise_eq]
  · obtain ⟨hlo, hhi⟩ := encodePacket_length_bounds hf hv Config.params
    refine ⟨_, (exec_encodeFrame sel s).trans (withFrame_valid hv), ?_, hlo, hhi, fun i hi => ?_, rfl⟩
    · exact State.loadTx_txBytes s _ (by omega)
    · exact overlay_getElem_kept _ s.txbuf i i.isLt hi

theorem encode_txRd (idx : BitVec 5) : encode (.txRd idx) = .command (idx.setWidth 128 <<< 18 ||| 0x0C) := by
  simp [encode, Instr.isCommand, wordOfFields, fieldsOf, place, BitVec.or_comm]

section
variable {s : State} {idx : BitVec 5}

theorem exec_txRd_illegalCommand (h : s.txlen ≤ idx) :
    exec (.txRd idx) s = .next { s with responses := ⟨.illegalCommand, 0, 0⟩ :: s.responses } :=
  if_pos h

theorem exec_txRd_ok (h : idx < s.txlen) (h20 : idx.toNat < 20) : exec (.txRd idx) s =
    .next { s with responses := ⟨.ok, (s.txbuf[idx.toNat]).setWidth 32, 0⟩ :: s.responses } := by
  have hbyte : s.txbuf.toList.getD idx.toNat 0 = s.txbuf[idx.toNat] := by simp [h20]
  rw [← hbyte]
  exact if_neg (BitVec.not_le.mpr h)

end

/-- Settles O39. -/
theorem txRdReturnsTheByte : Obligations.TxRdReturnsTheByte :=
  ⟨encode_txRd, refusesOtherFields .txRd, fun _ _ =>
    ⟨fun h => exec_txRd_illegalCommand h, fun h20 h => exec_txRd_ok h h20⟩⟩

/-! ### The receive buffer (R206, R208) -/

theorem exec_rxClr (s : State) :
    exec .rxClr s = .next { s with rxlen := 0, responses := ⟨.ok, 0, 0⟩ :: s.responses } := rfl

theorem encode_rxAppend (b : Byte) : encode (.rxAppend b) = .command (b.setWidth 128 <<< 24 ||| 0x0E) := by
  simp [encode, Instr.isCommand, wordOfFields, fieldsOf, place, BitVec.or_comm]

section
variable {s : State} (b : Byte)

theorem exec_rxAppend_bufferOverflow (h : s.rxlen = 20) :
    exec (.rxAppend b) s = .next { s with responses := ⟨.bufferOverflow, 0, 0⟩ :: s.responses } :=
  if_pos h

theorem exec_rxAppend_ok (h : s.rxlen ≠ 20) : exec (.rxAppend b) s = .next { s with
    rxbuf := s.rxbuf.setIfInBounds s.rxlen.toNat b, rxlen := s.rxlen + 1
    responses := ⟨.ok, (s.rxlen + 1).setWidth 32, 0⟩ :: s.responses } :=
  if_neg h

end

/-- The bytes of a buffer with one byte written. -/
theorem setIfInBounds_getElem {n : Nat} (v : Vector Byte n) (k : Nat) (b : Byte) (i : Fin n) :
    (v.setIfInBounds k b)[i] = if i.val = k then b else v[i] := by
  simp [Vector.getElem_setIfInBounds, eq_comm]

/-- Settles O40: below 20 the new length does not wrap. -/
theorem receiveBufferCommands : Obligations.ReceiveBufferCommands := by
  refine ⟨by decide, encode_rxAppend, refusesOtherFields .rxClr, refusesOtherFields .rxAppend, fun s b =>
    ⟨exec_rxClr s, fun h => exec_rxAppend_bufferOverflow b (BitVec.eq_of_toNat_eq h), fun h =>
      ⟨s.rxbuf.setIfInBounds s.rxlen.toNat b, setIfInBounds_getElem s.rxbuf s.rxlen.toNat b, ?_⟩⟩⟩
  have hne : s.rxlen ≠ 20 := fun heq => by simp [heq] at h
  have hlen : s.rxlen + 1 = BitVec.ofNat 5 (s.rxlen.toNat + 1) := by bv_omega
  have hval : (s.rxlen + 1).setWidth 32 = BitVec.ofNat 32 (s.rxlen.toNat + 1) := by bv_omega
  rw [exec_rxAppend_ok b hne, hval, hlen]

/-! ### The decoder (R210) -/

theorem exec_decodeFrame_ok {s : State} {f : FrameReg} {n : Nat} (h : decodePacketFrame Config.params s.rxBytes = .ok (f, n)) :
    exec .decodeFrame s = .next { s with rxf := f, responses := ⟨.ok, BitVec.ofNat 32 n, 0⟩ :: s.responses } := by
  simp [exec, execDecode, decodeWith, h]

theorem exec_decodeFrame_error {s : State} {e : ResultCode} (h : decodePacketFrame Config.params s.rxBytes = .error e) :
    exec .decodeFrame s = .next { s with responses := ⟨e, 0, 0⟩ :: s.responses } := by
  simp [exec, execDecode, decodeWith, h]

/-- Settles O42: what decodes is well framed, so its length is that of a packet. -/
theorem decodeFillsTheReceiveFrame : Obligations.DecodeFillsTheReceiveFrame := by
  refine ⟨by decide, refusesOtherFields .decodeFrame, fun s => ⟨fun f n h => ?_, fun e h => ?_⟩⟩
  · obtain ⟨hlo, hhi⟩ := decodePacketFrame_length_bounds h
    exact ⟨(decodePacketFrame_ok h).1, hlo, hhi, exec_decodeFrame_ok h⟩
  · exact ⟨decodePacketFrame_error h, exec_decodeFrame_error h⟩

end Sys2Proof.Machine
end

section
/-! Proofs: the deframer (43_data_frame.md): what a pushed byte does in each of its states (R220), and the packet of a frame pushed
byte by byte (R222). -/

namespace Sys2Proof.Machine

/-! ### What a pushed byte does (R220) -/

theorem exec_rxPush_hunt {s : State} (b : Byte) (h : s.dfState = .hunt) : exec (.rxPush b) s = pushHunt b s := by
  simp only [exec, execRxPush, pushWith, h]

theorem exec_rxPush_ctrl {s : State} (b : Byte) (h : s.dfState = .ctrl) :
    exec (.rxPush b) s = pushCtrl Config.params b s := by
  simp only [exec, execRxPush, pushWith, h]

theorem exec_rxPush_body {s : State} (b : Byte) (h : s.dfState = .body) :
    exec (.rxPush b) s = pushBody Config.params b s := by
  simp only [exec, execRxPush, pushWith, h]

theorem State.restart_of_ne {s : State} {b : Byte} (h : b ≠ startMarker) :
    s.restart b = { s with dfState := .hunt, dfN := 0 } :=
  if_neg h

theorem State.restart_startMarker (s : State) :
    s.restart startMarker = { s with dfState := .ctrl, dfN := 1, dfBuf := s.dfBuf.set 0 startMarker } := by
  rw [State.restart, if_pos rfl]
  rfl

theorem set_getElem {n k : Nat} (v : Vector Byte n) (b : Byte) (h : k < n) (i : Fin n) :
    (v.set k b)[i] = if i.val = k then b else v[i] := by
  simp [Vector.getElem_set, eq_comm]

/-! ### HUNT -/

theorem progress_startPacket (s : State) (b : Byte) : (s.startPacket b).progress = 0x11 :=
  show place 32 4 DfState.ctrl.code ||| place 32 0 (1 : BitVec 4) = 0x11 by decide

theorem exec_rxPush_hunt_startMarker {s : State} (h : s.dfState = .hunt) : exec (.rxPush startMarker) s = .next { s with
    dfState := .ctrl, dfN := 1, dfBuf := s.dfBuf.set 0 startMarker
    responses := ⟨.inProgress, 0x11, 0⟩ :: s.responses } := by
  rw [exec_rxPush_hunt _ h, pushHunt, if_pos rfl, State.respond_eq, progress_startPacket]
  rfl

theorem exec_rxPush_hunt_of_ne {s : State} {b : Byte} (h : s.dfState = .hunt) (hn : s.dfN = 0) (hb : b ≠ startMarker) :
    exec (.rxPush b) s = .next { s with responses := ⟨.inProgress, 0, 0⟩ :: s.responses } := by
  have hprogress : s.progress = 0 := by rw [State.progress, h, hn]; rfl
  rw [exec_rxPush_hunt _ h, pushHunt, if_neg hb, State.respond_eq, hprogress]

/-- Settles O45. -/
theorem pushWhileHunting : Obligations.PushWhileHunting := fun s h hn =>
  ⟨⟨_, set_getElem s.dfBuf startMarker (by decide), exec_rxPush_hunt_startMarker h⟩,
    fun _ hb => exec_rxPush_hunt_of_ne h hn hb⟩

/-! ### CTRL -/

theorem exec_rxPush_ctrl_accepted {s : State} {b : Byte} (h : s.dfState = .ctrl) (hb : controlBad Config.params b = false) :
    exec (.rxPush b) s = .next { s with
      dfState := .body, dfN := 2, dfBuf := s.dfBuf.set 1 b, dfExp := BitVec.ofNat 4 (packetLength b)
      responses := ⟨.inProgress, 0x22, 0⟩ :: s.responses } := by
  have hprogress : place 32 4 DfState.body.code ||| place 32 0 (2 : BitVec 4) = 0x22 := by decide
  rw [exec_rxPush_ctrl b h, ← hprogress]
  exact if_neg (Bool.eq_false_iff.mp hb)

theorem exec_rxPush_ctrl_refused {s : State} {b : Byte} (h : s.dfState = .ctrl) (hb : controlBad Config.params b = true) :
    exec (.rxPush b) s = (s.restart b).raise .malformedFrame := by
  rw [exec_rxPush_ctrl b h]
  exact if_pos hb

/-- This hardware checks the marker bits (log entry 1). -/
theorem controlBad_params_eq_false {b : Byte} :
    controlBad Config.params b = false ↔ b.extractLsb' 6 2 = 3 ∧ (b.extractLsb' 0 4).toNat ≤ 8 := by
  rw [controlBad_eq_false]
  exact and_congr_left' ⟨fun h => h rfl, fun h _ => h⟩

theorem controlBad_params_eq_true {b : Byte} :
    controlBad Config.params b = true ↔ b.extractLsb' 6 2 ≠ 3 ∨ 8 < (b.extractLsb' 0 4).toNat := by
  rw [← Bool.not_eq_false, controlBad_params_eq_false, not_and_or, Nat.not_le]

theorem controlBad_startMarker : controlBad Config.params startMarker = true :=
  controlBad_params_eq_true.mpr (.inl (by decide))

theorem idWidth_ofBit (b : BitVec 1) : idWidth (.ofBit b) = if b = 1 then 4 else 2 := by
  decide +revert

/-- Settles O46: a start marker has the marker bits 10, so it is refused as a control byte. -/
theorem pushControlByte : Obligations.PushControlByte := by
  refine fun s b h => ⟨fun hmarker hdlc => ⟨_, set_getElem s.dfBuf b (by decide), ?_⟩, fun hbad hb => ?_, fun hb =>
    ⟨_, set_getElem s.dfBuf startMarker (by decide), ?_⟩⟩
  · rw [exec_rxPush_ctrl_accepted h (controlBad_params_eq_false.mpr ⟨hmarker, hdlc⟩), packetLength, kindOfControl,
      idWidth_ofBit, dlcOfControl]
  · rw [exec_rxPush_ctrl_refused h (controlBad_params_eq_true.mpr hbad), State.restart_of_ne hb, State.raise_eq]
  · obtain rfl : b = startMarker := hb
    rw [exec_rxPush_ctrl_refused h controlBad_startMarker, State.restart_startMarker, State.raise_eq]

/-! ### BODY -/

theorem progress_body (n : BitVec 4) : place 32 4 DfState.body.code ||| place 32 0 n = 0x20 + n.setWidth 32 := by
  decide +revert

section
variable {s : State} {b : Byte} (h : s.dfState = .body)
include h

theorem exec_rxPush_body_more (hmore : s.dfN + 1 < s.dfExp) : exec (.rxPush b) s = .next { s.collect b with
    responses := ⟨.inProgress, 0x20 + (s.dfN + 1).setWidth 32, 0⟩ :: s.responses } := by
  rw [exec_rxPush_body b h, ← progress_body, ← h]
  exact if_pos hmore

variable (hlast : s.dfN + 1 = s.dfExp)
include hlast

theorem exec_rxPush_body_badEnd (hb : b ≠ endMarker) :
    exec (.rxPush b) s = ((s.collect b).restart b).raise .malformedFrame := by
  rw [exec_rxPush_body b h]
  exact (if_neg (hlast ▸ BitVec.lt_irrefl _)).trans (if_pos hb)

/-- A whole packet is decoded, and the deframer hunts whatever comes of it. -/
theorem exec_rxPush_body_end : exec (.rxPush endMarker) s =
    match decodePacketFrame Config.params ((s.collect endMarker).dfBuf.toList.take s.dfExp.toNat) with
    | .error e => (s.collect endMarker).hunting.raise e
    | .ok (f, n) => ({ (s.collect endMarker).hunting with rxf := f } : State).succeed (BitVec.ofNat 32 n) 0 := by
  rw [exec_rxPush_body endMarker h]
  exact (if_neg (hlast ▸ BitVec.lt_irrefl _)).trans (if_neg (not_not.mpr rfl))

theorem exec_rxPush_body_ok {f : FrameReg} {n : Nat}
    (hok : decodePacketFrame Config.params ((s.collect endMarker).dfBuf.toList.take s.dfExp.toNat) = .ok (f, n)) :
    exec (.rxPush endMarker) s = .next { s with
      dfState := .hunt, dfN := 0, dfBuf := (s.collect endMarker).dfBuf, rxf := f
      responses := ⟨.ok, BitVec.ofNat 32 n, 0⟩ :: s.responses } := by
  rw [exec_rxPush_body_end h hlast, hok]
  rfl

theorem exec_rxPush_body_error {e : ResultCode}
    (he : decodePacketFrame Config.params ((s.collect endMarker).dfBuf.toList.take s.dfExp.toNat) = .error e) :
    exec (.rxPush endMarker) s = .next { s with
      dfState := .hunt, dfN := 0, dfBuf := (s.collect endMarker).dfBuf, responses := ⟨e, 0, 0⟩ :: s.responses } := by
  rw [exec_rxPush_body_end h hlast, he]
  rfl

end

theorem collect_take_getElem? (s : State) (b : Byte) {i n : Nat} (hi : i < n) (h15 : i < 15) :
    ((s.collect b).dfBuf.toList.take n)[i]? = some (if i = s.dfN.toNat then b else s.dfBuf[i]) := by
  rw [List.getElem?_take_of_lt hi, Vector.getElem?_toList, Vector.getElem?_eq_getElem h15]
  simp [State.collect, Vector.getElem_setIfInBounds, eq_comm]

/-- What a deframer holds with the last byte of its packet pushed: the first two bytes were judged when they came. -/
theorem wellFramed_collect {s : State} (h : s.dfState = .body) (hs : s.DeframerLegal Config.params)
    (hlast : s.dfN + 1 = s.dfExp) :
    WellFramed Config.params ((s.collect endMarker).dfBuf.toList.take s.dfExp.toNat) ∧
      packetLength (((s.collect endMarker).dfBuf.toList.take s.dfExp.toNat).getD 1 0) = s.dfExp.toNat := by
  simp only [State.DeframerLegal, h] at hs
  obtain ⟨hn2, hnexp, hstart, hgood, hexp⟩ := hs
  have hn : 2 ≤ s.dfN.toNat := hn2
  have hn1 : s.dfN.toNat + 1 = s.dfExp.toNat := by bv_omega
  have hget {i : Nat} := collect_take_getElem? s endMarker (i := i) (n := s.dfExp.toNat)
  have h0 := hget (i := 0) (by omega) (by omega)
  have h1 := hget (i := 1) (by omega) (by omega)
  have hend := hget (i := s.dfN.toNat) (by omega) (by omega)
  rw [if_neg (by omega), hstart] at h0
  rw [if_neg (by omega)] at h1
  rw [if_pos rfl] at hend
  obtain ⟨hmarker, hdlc⟩ := controlBad_eq_false.mp hgood
  refine ⟨⟨s.dfBuf[1], h0, h1, hmarker, hdlc, ?_, ?_⟩, ?_⟩
  · simp [← hexp]
    omega
  · rwa [← hexp, ← hn1, Nat.add_sub_cancel, hn1]
  · rw [List.getD_eq_getElem?_getD, h1, hexp]
    rfl

/-- Settles O47: what is collected when the last byte is an end marker is well framed, so only the identifier can be wrong. -/
theorem pushBodyByte : Obligations.PushBodyByte := by
  intro s b h hs
  have hd := hs
  simp only [State.DeframerLegal, h] at hd
  obtain ⟨-, hnexp, -, -, -⟩ := hd
  have hlt : s.dfN.toNat < s.dfExp.toNat := hnexp
  have hval : (s.dfN + 1).setWidth 32 = BitVec.ofNat 32 (s.dfN.toNat + 1) := by bv_omega
  have hlast (hn : s.dfN.toNat + 1 = s.dfExp.toNat) : s.dfN + 1 = s.dfExp := by bv_omega
  refine ⟨(s.collect b).dfBuf, setIfInBounds_getElem s.dfBuf s.dfN.toNat b, fun hn => ?_, fun hn hend hstart => ?_,
    fun hn hstart => ?_, fun hn hend => ?_⟩
  · rw [exec_rxPush_body_more h (by bv_omega), hval]
    rfl
  · rw [exec_rxPush_body_badEnd h (hlast hn) hend, State.restart_of_ne hstart, State.raise_eq]
    rfl
  · obtain rfl : b = startMarker := hstart
    rw [exec_rxPush_body_badEnd h (hlast hn) (by decide), State.restart_startMarker, State.raise_eq]
    rfl
  · obtain rfl : b = endMarker := hend
    obtain ⟨hframed, hlen⟩ := wellFramed_collect h hs (hlast hn)
    have hdecode := decodePacketFrame_of_wellFramed hframed
    rw [hlen] at hdecode
    split at hdecode
    · exact .inr ⟨hdecode, exec_rxPush_body_error h (hlast hn) hdecode⟩
    · refine .inl ⟨_, hdecode, rfl, ?_⟩
      rw [exec_rxPush_body_ok h (hlast hn) hdecode, BitVec.ofNat_toNat]

/-! ### A packet pushed byte by byte (R222) -/

/-- The byte pushed is the next the deframer holds. -/
theorem collect_take {s : State} (b : Byte) (h : s.dfN.toNat < 15) :
    (s.collect b).dfBuf.toList.take (s.dfN.toNat + 1) = s.dfBuf.toList.take s.dfN.toNat ++ [b] := by
  rw [State.collect, setIfInBounds_eq_set _ b h, take_set]

/-- The rest of a packet whose first bytes are held: each byte but the last is answered `InProgress`, and what is decoded in the
end is what was held with the bytes pushed. -/
theorem execAll_rxPush_body {s : State} (bs : List Byte) {f : FrameReg} {n : Nat} (h : s.dfState = .body)
    (hlen : s.dfN.toNat + bs.length + 1 = s.dfExp.toNat)
    (hok : decodePacketFrame Config.params (s.dfBuf.toList.take s.dfN.toNat ++ (bs ++ [endMarker])) = .ok (f, n)) :
    ∃ v ps, execAll ((bs ++ [endMarker]).map Instr.rxPush) s = .next { s with
      dfState := .hunt, dfN := 0, dfBuf := v, rxf := f, responses := ⟨.ok, BitVec.ofNat 32 n, 0⟩ :: (ps ++ s.responses) } ∧
    ps.length = bs.length ∧ ∀ r ∈ ps, r.res = .inProgress := by
  induction bs generalizing s with
  | nil =>
    rw [List.length_nil, Nat.add_zero] at hlen
    have hroom : s.dfN.toNat < 15 := by omega
    refine ⟨_, [], execAll_cons (exec_rxPush_body_ok h (by bv_omega) ?_), rfl, by simp⟩
    rwa [← hlen, collect_take _ hroom]
  | cons b bs ih =>
    rw [List.length_cons] at hlen
    have hroom : s.dfN.toNat < 15 := by omega
    have hn : (s.dfN + 1).toNat = s.dfN.toNat + 1 := by bv_omega
    obtain ⟨r, hr, hfirst⟩ : ∃ r, r.res = .inProgress ∧
        exec (.rxPush b) s = .next { s.collect b with responses := r :: s.responses } :=
      ⟨_, rfl, exec_rxPush_body_more h (by bv_omega)⟩
    have hlen' : (s.dfN + 1).toNat + bs.length + 1 = s.dfExp.toNat := by omega
    have hok' : decodePacketFrame Config.params
        ((s.collect b).dfBuf.toList.take (s.dfN + 1).toNat ++ (bs ++ [endMarker])) = .ok (f, n) := by
      rw [hn, collect_take b hroom, List.append_assoc]
      exact hok
    obtain ⟨v, ps, hexec, hps, hall⟩ := ih (s := { s.collect b with responses := r :: s.responses }) h hlen' hok'
    refine ⟨v, ps ++ [r], ?_, by simp [hps], by simpa [or_imp, forall_and, hr] using hall⟩
    rw [List.cons_append, List.map_cons, execAll_cons hfirst, hexec, List.append_assoc]
    rfl

/-- A whole packet whose control byte gives its length. -/
theorem execAll_rxPush_packet {s : State} {c : Byte} {p bs : List Byte} {f : FrameReg} {n : Nat} (h : s.dfState = .hunt)
    (hp : p = startMarker :: c :: (bs ++ [endMarker])) (hlen : packetLength c = p.length)
    (hok : decodePacketFrame Config.params p = .ok (f, n)) : ∃ v e ps, execAll (p.map Instr.rxPush) s = .next { s with
      dfState := .hunt, dfN := 0, dfBuf := v, dfExp := e, rxf := f
      responses := ⟨.ok, BitVec.ofNat 32 n, 0⟩ :: (ps ++ s.responses) } ∧
    ps.length = p.length - 1 ∧ ∀ r ∈ ps, r.res = .inProgress := by
  subst hp
  have hsum : packetLength c = bs.length + 3 := by simpa using hlen
  obtain ⟨-, hgood, -⟩ := wellFramed_cons_cons.mp (wellFramed_of_decodePacketFrame_ok hok)
  obtain ⟨-, hhi⟩ := packetLength_bounds (dlc_le_of_controlBad hgood)
  have hheld : ((s.dfBuf.set 0 startMarker).set 1 c).toList.take 2 = [startMarker, c] := by
    rw [take_set, take_set]
    rfl
  have hlen' : 2 + bs.length + 1 = (BitVec.ofNat 4 (packetLength c)).toNat := by
    rw [BitVec.toNat_ofNat]
    omega
  have hok' : decodePacketFrame Config.params
      (((s.dfBuf.set 0 startMarker).set 1 c).toList.take 2 ++ (bs ++ [endMarker])) = .ok (f, n) := by
    rwa [hheld]
  have hctrl := exec_rxPush_ctrl_accepted (s := { s with
    dfState := .ctrl, dfN := 1, dfBuf := s.dfBuf.set 0 startMarker
    responses := ⟨.inProgress, 0x11, 0⟩ :: s.responses }) rfl hgood
  obtain ⟨v, ps, hexec, hps, hall⟩ := execAll_rxPush_body (s := { s with
    dfState := .body, dfN := 2, dfBuf := (s.dfBuf.set 0 startMarker).set 1 c, dfExp := BitVec.ofNat 4 (packetLength c)
    responses := ⟨.inProgress, 0x22, 0⟩ :: ⟨.inProgress, 0x11, 0⟩ :: s.responses }) bs rfl hlen' hok'
  refine ⟨v, BitVec.ofNat 4 (packetLength c), ps ++ [⟨.inProgress, 0x22, 0⟩, ⟨.inProgress, 0x11, 0⟩], ?_, by simp [hps], ?_⟩
  · rw [List.map_cons, List.map_cons, execAll_cons (exec_rxPush_hunt_startMarker h), execAll_cons hctrl, hexec,
      List.append_assoc]
    rfl
  · simpa [or_imp, forall_and] using hall

/-- Settles O48: the deframer collects the packet byte by byte, and it decodes to the frame of R214. -/
theorem deframerReceivesEncodedPackets : Obligations.DeframerReceivesEncodedPackets := by
  intro f s hv hf h hn p
  obtain ⟨hlen, -⟩ := hf hv
  have hok : decodePacketFrame Config.params p = .ok (f.zeroTail, p.length) := decodePacketFrame_encodePacket _ hv hf
  have hpacket : packetLength (controlByte f.ide f.rtr f.len) = p.length := packetLength_controlByte _ hlen
  obtain ⟨v, e, ps, hexec, hps, hall⟩ := execAll_rxPush_packet h rfl hpacket hok
  refine ⟨_, f.zeroTail, ps, hexec, hok, rfl, hps, hall, ?_⟩
  rw [h, hn]

end Sys2Proof.Machine
end

section
/-! Proofs: the session (44_session.md): its commands in all their outcomes (R240 to R258) and its state machine (R260). -/

namespace Sys2Proof.Machine

/-! ### The counters (R252) -/

/-- The smaller of the sum and 255 fits in a counter. -/
theorem toNat_satAdd8 (a b : BitVec 8) : (satAdd8 a b).toNat = min (a.toNat + b.toNat) 255 := by
  rw [satAdd8, BitVec.toNat_ofNat]
  omega

theorem satAdd8_saturated (b : BitVec 8) : satAdd8 255 b = 255 := by
  apply BitVec.eq_of_toNat_eq
  rw [toNat_satAdd8]
  exact Nat.min_eq_right (Nat.le_add_right 255 b.toNat)

/-- Settles O53: the sum is cut at 255 before it is taken as a byte, and 255 is cut again. -/
theorem counterUpdate : Obligations.CounterUpdate :=
  ⟨toNat_satAdd8, fun _ _ => rfl, satAdd8_saturated, rfl⟩

/-! ### Calls on states with the same answers to come -/

section
variable {s t : State} (hanswers : t.answers = s.answers) (hdraws : t.draws = s.draws)
include hanswers hdraws

theorem State.afterOpen_congr : t.afterOpen = { t with
    answers := s.afterDraw.answers, draws := s.afterDraw.draws
    calls := .tOpen Config.path Config.lineSettings (!s.draw.err) :: t.calls } := by
  obtain ⟨ha, hd⟩ := State.afterDraw_congr hanswers hdraws
  rw [State.afterOpen_eq, State.openAnswer, State.draw_congr hanswers hdraws, ha, hd]

theorem State.afterWrite_congr (p : List Byte) : t.afterWrite p = { t with
    answers := s.afterDraw.answers, draws := s.afterDraw.draws
    calls := .tWrite p (s.writeAnswer p) :: t.calls } := by
  obtain ⟨ha, hd⟩ := State.afterDraw_congr hanswers hdraws
  rw [State.afterWrite_eq, State.writeAnswer_congr (State.draw_congr hanswers hdraws), ha, hd]

theorem State.afterRead_congr (hunread : t.unread = s.unread) (n : Nat) : t.afterRead n = { t with
    answers := s.afterDraw.answers, draws := s.afterDraw.draws, unread := (s.afterRead n).unread
    calls := .tRead n (s.readAnswer n) :: t.calls } := by
  have hdraw := State.draw_congr hanswers hdraws
  obtain ⟨ha, hd⟩ := State.afterDraw_congr hanswers hdraws
  rw [State.afterRead_eq, State.afterRead_unread, State.readAnswer_congr hdraw hunread, State.available, State.available,
    hdraw, hunread, ha, hd]

end

/-- The state once a packet is built into `TXBUF` and the transport has answered its write. -/
def State.written (s : State) (p : List Byte) : State := { s with
  answers := s.afterDraw.answers, draws := s.afterDraw.draws
  txbuf := overlay p s.txbuf, txlen := BitVec.ofNat 5 p.length
  calls := .tWrite p (s.writeAnswer p) :: s.calls }

theorem State.afterWrite_loadTx (s : State) (p : List Byte) : (s.loadTx p).afterWrite p = s.written p :=
  State.afterWrite_congr (s := s) (t := s.loadTx p) rfl rfl p

theorem State.loadTx_writeAnswer (s : State) (p q : List Byte) : (s.loadTx p).writeAnswer q = s.writeAnswer q := rfl

theorem State.writeAnswer_of_err {s : State} (h : s.draw.err = true) (p : List Byte) : s.writeAnswer p = none :=
  if_pos h

theorem State.writeAnswer_of_count {s : State} (h : s.draw.err = false) (p : List Byte) :
    s.writeAnswer p = some (min s.draw.count p.length) :=
  if_neg (Bool.eq_false_iff.mp h)

/-- A read behind the write takes the second answer. -/
theorem State.readAnswer_written (s : State) (p : List Byte) (n : Nat) :
    (s.written p).readAnswer n = s.afterDraw.readAnswer n := by
  rw [← State.afterWrite_loadTx, afterWrite_loadTx_readAnswer]

/-! ### `OPEN` (R240) -/

/-- What `OPEN` makes of the state once the transport is open and has answered the write of the configuration packet. -/
def State.configured (s : State) (baud : BitVec 4) (mode : OpMode) : State :=
  { s.written (configPacket baud mode) with tportOpen := true, rxErr := 0, txErr := 0, statusFlags := 0 }

/-- The session is Ready exactly when all 20 bytes went. -/
theorem configureSession_eq (baud : BitVec 4) (mode : OpMode) (s : State) : configureSession baud mode s =
    if s.writeAnswer (configPacket baud mode) = some 20 then
      ({ s.configured baud mode with sessState := .ready } : State).succeed 20 0
    else
      ({ (s.configured baud mode).afterClose with tportOpen := false, sessState := .closed } : State).raise
        .transportUnavailable := by
  have hlen := configPacket_length baud mode
  unfold configureSession
  generalize hu : State.loadTx _ (configPacket baud mode) = u
  have hbytes : u.txBytes = configPacket baud mode := hu ▸ State.loadTx_txBytes _ _ hlen.le
  have hanswers : u.answers = s.answers := hu ▸ rfl
  have hdraws : u.draws = s.draws := hu ▸ rfl
  have hafter : u.afterWrite (configPacket baud mode) = s.configured baud mode :=
    (State.afterWrite_congr hanswers hdraws _).trans (hu ▸ rfl)
  dsimp only
  rw [hbytes, hafter, State.writeAnswer_congr (State.draw_congr hanswers hdraws)]
  cases hw : s.writeAnswer (configPacket baud mode) with
  | none => rw [if_neg (by simp)]
  | some n =>
    have hle := hlen ▸ writeAnswer_le hw
    obtain hlt | rfl : n < 20 ∨ n = 20 := by omega
    · rw [if_neg (by simp [hlt.ne])]
      exact if_pos hlt
    · rw [if_pos rfl]
      exact if_neg (lt_irrefl 20)

/-- What `OPEN` makes of the state when the transport has answered `T_open`. -/
def State.opened (s : State) : State := { s with
  answers := s.afterDraw.answers, draws := s.afterDraw.draws, sessState := .configuring
  calls := .tOpen Config.path Config.lineSettings (!s.draw.err) :: s.calls }

theorem openAnswer_configuring (s : State) : ({ s with sessState := .configuring } : State).openAnswer = !s.draw.err := rfl

theorem afterOpen_configuring (s : State) : ({ s with sessState := .configuring } : State).afterOpen = s.opened :=
  State.afterOpen_congr rfl rfl

/-- The write takes the answer behind that of `T_open`. -/
theorem configured_opened (baud : BitVec 4) (mode : OpMode) (s : State) : s.opened.configured baud mode = { s with
    answers := s.afterDraw.afterDraw.answers, draws := s.afterDraw.afterDraw.draws
    txbuf := overlay (configPacket baud mode) s.txbuf, txlen := 20
    sessState := .configuring, tportOpen := true, rxErr := 0, txErr := 0, statusFlags := 0
    calls := .tWrite (configPacket baud mode) (s.afterDraw.writeAnswer (configPacket baud mode)) ::
      .tOpen Config.path Config.lineSettings (!s.draw.err) :: s.calls } := by
  obtain ⟨hanswers, hdraws⟩ := State.afterDraw_congr (s := s.opened) (t := s.afterDraw) rfl rfl
  rw [State.configured, State.written, hanswers, hdraws]
  rfl

section
variable {s : State} {baud : BitVec 4} (mode : OpMode)

theorem exec_openSession_illegalCommand (s : State) (h : baudLegal baud = false) :
    exec (.openSession baud mode) s = .next { s with responses := ⟨.illegalCommand, 0, 0⟩ :: s.responses } :=
  if_pos (by simp [h])

theorem exec_openSession_notReady (h : baudLegal baud = true) (hsess : s.sessState ≠ .closed) :
    exec (.openSession baud mode) s = .next { s with responses := ⟨.notReady, 0, 0⟩ :: s.responses } :=
  (if_neg (by simp [h])).trans (if_pos hsess)

theorem exec_openSession_unavailable (h : baudLegal baud = true) (hsess : s.sessState = .closed) (herr : s.draw.err = true) :
    exec (.openSession baud mode) s = ({ s.opened with sessState := .closed } : State).raise .transportUnavailable := by
  rw [← afterOpen_configuring]
  exact (if_neg (by simp [h])).trans ((if_neg (not_not.mpr hsess)).trans
    (if_neg (by simp [openAnswer_configuring, herr])))

theorem exec_openSession_opened (h : baudLegal baud = true) (hsess : s.sessState = .closed) (herr : s.draw.err = false) :
    exec (.openSession baud mode) s = configureSession baud mode s.opened := by
  rw [← afterOpen_configuring]
  exact (if_neg (by simp [h])).trans ((if_neg (not_not.mpr hsess)).trans
    (if_pos (by simp [openAnswer_configuring, herr])))

end

/-- Settles O49: the two calls take two answers, and the second decides whether the session is Ready. -/
theorem openOpensAndConfigures : Obligations.OpenOpensAndConfigures := by
  refine ⟨fun _ _ => rfl, refusesOtherFields .openSession, rfl, fun s baud mode => ⟨fun hbaud => ?_, fun hlo hhi => ?_⟩⟩
  · exact exec_openSession_illegalCommand mode s (baudLegal_eq_false.mpr (hbaud.imp_left BitVec.eq_of_toNat_eq))
  have hbaud := baudLegal_eq_true.mpr ⟨hlo, hhi⟩
  refine ⟨exec_openSession_notReady mode hbaud, fun hsess herr => ⟨_, exec_openSession_unavailable mode hbaud hsess herr, ?_⟩,
    fun hsess herr => ?_⟩
  · simp [State.opened, herr, hsess]
  have hwrite : s.opened.writeAnswer (configPacket baud mode) = s.afterDraw.writeAnswer (configPacket baud mode) := rfl
  rw [exec_openSession_opened mode hbaud hsess herr, configureSession_eq, hwrite, configured_opened, herr]
  split
  next ha =>
    refine ⟨_, _, rfl, overlay_toList _ _ (configPacket_length baud mode), rfl, fun _ => ?_, fun hne => absurd ha hne⟩
    simp [ha]
  next ha =>
    exact ⟨_, _, rfl, overlay_toList _ _ (configPacket_length baud mode), rfl, fun heq => absurd heq ha, fun _ => rfl⟩

/-! ### `SEND` (R244) -/

theorem sendView_eq_ofNat {n count : Nat} (hn : n < 2 ^ 5) (hcount : count < 2 ^ 8) :
    sendView (BitVec.ofNat 5 n) count = BitVec.ofNat 32 (2 ^ 8 * n + count) := by
  have hlow : (place 32 0 (BitVec.ofNat 8 count)).toNat = count := by
    rw [toNat_place 32 0 _ (by decide), BitVec.toNat_ofNat, Nat.mod_eq_of_lt hcount, pow_zero, Nat.one_mul]
  apply BitVec.eq_of_toNat_eq
  rw [sendView, BitVec.or_comm, toNat_or_place 8 _ _ (by decide) (by omega), hlow, BitVec.toNat_ofNat, BitVec.toNat_ofNat]
  omega

/-- What `SEND` answers when the transport has answered the write of the packet `p`. -/
def sendResponse (p : List Byte) : Option Nat → Response
  | none => ⟨.transportWriteError, 0, 0⟩
  | some n => ⟨.ok, sendView (BitVec.ofNat 5 p.length) n, 0⟩

section
variable {s : State} {sel : FrameSel}

theorem exec_send_notReady (h : s.sessState ≠ .ready) :
    exec (.send sel) s = .next { s with responses := ⟨.notReady, 0, 0⟩ :: s.responses } :=
  if_pos h

theorem exec_send_noFrame (h : s.sessState = .ready) (hv : (s.frame sel).valid = false) :
    exec (.send sel) s = .next { s with responses := ⟨.noFrame, 0, 0⟩ :: s.responses } :=
  (if_neg (not_not.mpr h)).trans (withFrame_invalid hv)

theorem exec_send_written {p : List Byte} (h : s.sessState = .ready) (hv : (s.frame sel).valid = true)
    (hp : encodePacket Config.params (s.frame sel) = p) (hlen : p.length ≤ 20) :
    exec (.send sel) s = (s.written p).respond (sendResponse p (s.writeAnswer p)) := by
  simp only [exec, execSend, sendWith]
  rw [if_neg (not_not.mpr h), withFrame_valid hv, hp, State.loadTx_txBytes _ _ hlen, State.afterWrite_loadTx,
    State.loadTx_writeAnswer]
  cases s.writeAnswer p <;> rfl

end

/-- Settles O50: the packet of a legal frame is at most 15 bytes, so all of it stands in `TXBUF` and its length in `RVAL`. -/
theorem sendWritesTheFrame : Obligations.SendWritesTheFrame := by
  refine ⟨fun _ => rfl, refusesOtherFields .send, fun s sel => ⟨exec_send_notReady, exec_send_noFrame, fun hready hv hf => ?_⟩⟩
  obtain ⟨-, hlen⟩ := encodePacket_length_bounds hf hv Config.params
  dsimp only
  generalize hp : encodePacket Config.params (s.frame sel) = p at hlen ⊢
  refine ⟨_, exec_send_written hready hv hp (by omega), State.loadTx_txBytes s p (by omega),
    fun i hi => overlay_getElem_kept p s.txbuf i i.isLt hi, fun herr => ?_, fun herr => ?_⟩
  · rw [State.written, State.writeAnswer_of_err herr]
    rfl
  · rw [State.written, State.writeAnswer_of_count herr, sendResponse, sendView_eq_ofNat (by omega) (by omega)]

/-! ### `POLL_STATUS` (R250, R252) -/

/-- What `POLL_STATUS` does when the transport has answered the write of its query. -/
def afterQuery (P : Params) (s : State) : Option Nat → Result
  | none => s.raise .transportWriteError
  | some n =>
    if n < 20 then s.raise .statusUnavailable
    else
      match s.readAnswer 20 with
      | none => (s.afterRead 20).raise .statusUnavailable
      | some d => takeStatus P d (s.afterRead 20)

section
variable {s : State}

theorem exec_pollStatus_notReady (h : s.sessState ≠ .ready) :
    exec .pollStatus s = .next { s with responses := ⟨.notReady, 0, 0⟩ :: s.responses } :=
  if_pos h

theorem exec_pollStatus_ready (h : s.sessState = .ready) :
    exec .pollStatus s = afterQuery Config.params (s.written statusPacket) (s.writeAnswer statusPacket) := by
  simp only [exec, execPollStatus, pollWith]
  rw [if_neg (not_not.mpr h), State.loadTx_txBytes _ _ statusPacket_length.le, State.loadTx_writeAnswer,
    State.afterWrite_loadTx]
  cases s.writeAnswer statusPacket <;> rfl

theorem writeAnswer_statusPacket_whole (herr : s.draw.err = false) (hcount : 20 ≤ s.draw.count) :
    s.writeAnswer statusPacket = some 20 := by
  rw [State.writeAnswer_of_count herr, statusPacket_length, Nat.min_eq_right hcount]

/-- The state once the query has gone whole and the transport has answered the read with `a`. -/
def State.polled (s : State) (a : Option (List Byte)) : State := { s with
  answers := s.afterDraw.afterDraw.answers, draws := s.afterDraw.afterDraw.draws
  unread := (s.afterDraw.afterRead 20).unread
  txbuf := overlay statusPacket s.txbuf, txlen := 20
  calls := .tRead 20 a :: .tWrite statusPacket (some 20) :: s.calls }

theorem afterRead_written_statusPacket (herr : s.draw.err = false) (hcount : 20 ≤ s.draw.count) {a : Option (List Byte)}
    (hread : s.afterDraw.readAnswer 20 = a) : (s.written statusPacket).afterRead 20 = s.polled a := by
  rw [State.afterRead_congr (s := s.afterDraw) (t := s.written statusPacket) rfl rfl s.afterDraw_unread.symm, hread,
    State.written, writeAnswer_statusPacket_whole herr hcount]
  rfl

variable (h : s.sessState = .ready)
include h

theorem exec_pollStatus_writeError (herr : s.draw.err = true) :
    exec .pollStatus s = (s.written statusPacket).raise .transportWriteError := by
  rw [exec_pollStatus_ready h, State.writeAnswer_of_err herr, afterQuery]

theorem exec_pollStatus_partialWrite (herr : s.draw.err = false) (hcount : s.draw.count < 20) :
    exec .pollStatus s = (s.written statusPacket).raise .statusUnavailable := by
  rw [exec_pollStatus_ready h, State.writeAnswer_of_count herr, statusPacket_length]
  exact if_pos (by omega)

theorem exec_pollStatus_readError (herr : s.draw.err = false) (hcount : 20 ≤ s.draw.count)
    (hread : s.afterDraw.readAnswer 20 = none) : exec .pollStatus s = (s.polled none).raise .statusUnavailable := by
  rw [exec_pollStatus_ready h, writeAnswer_statusPacket_whole herr hcount, afterQuery, if_neg (lt_irrefl 20),
    State.readAnswer_written, hread, afterRead_written_statusPacket herr hcount hread]

theorem exec_pollStatus_read (herr : s.draw.err = false) (hcount : 20 ≤ s.draw.count) {d : List Byte}
    (hread : s.afterDraw.readAnswer 20 = some d) :
    exec .pollStatus s = takeStatus Config.params d (s.polled (some d)) := by
  rw [← afterRead_written_statusPacket herr hcount hread, ← State.afterWrite_loadTx]
  exact pollWith_of_read h herr hcount hread

end

/-- What a valid response makes of the state: it is kept in `RXBUF`, and the counters and the flags take what it reports. -/
def State.reported (P : Params) (d : List Byte) (s : State) : State := { s.loadRx d with
  rxErr := updateCounter P.cntUpdate s.rxErr (d.getD P.rxErrOff 0)
  txErr := updateCounter P.cntUpdate s.txErr (d.getD P.txErrOff 0)
  statusFlags := d.getD P.flagsOff 0 }

theorem takeStatus_valid {P : Params} {d : List Byte} {s : State} (hlen : d.length = 20) (h0 : d[0]? = some 0xAA)
    (h1 : d[1]? = some 0x55) (hcs : d[19]? = some (checksum (packetBody d))) :
    takeStatus P d s = (s.reported P d).succeed (s.reported P d).stateView 0 := by
  have hbuf : (s.loadRx d).rxbuf.toList = d := overlay_toList d s.rxbuf hlen
  rw [takeStatus, if_neg (by omega), if_neg (not_not.mpr (validateResponse_eq_ok hbuf h0 h1 hcs))]
  dsimp only [parseStatus]
  rw [hbuf]
  rfl

theorem validateResponse_ne_ok {buf : Vector Byte 20} {d : List Byte} (hbuf : buf.toList = d)
    (h : d[0]? ≠ some 0xAA ∨ d[1]? ≠ some 0x55 ∨ d[19]? ≠ some (checksum (packetBody d))) : validateResponse buf 20 ≠ .ok := by
  subst hbuf
  simp only [Vector.getElem?_toList, Vector.getElem?_eq_getElem, Nat.reduceLT, ne_eq, Option.some.injEq] at h
  by_cases hhead : buf[0] ≠ 0xAA ∨ buf[1] ≠ 0x55
  · rw [validateResponse_malformed (.inr hhead)]
    decide
  · obtain ⟨h0, h1⟩ : buf[0] = 0xAA ∧ buf[1] = 0x55 := by simpa using hhead
    rw [validateResponse_of_header rfl h0 h1, if_pos (by simpa [h0, h1] using h)]
    decide

theorem takeStatus_rejected {P : Params} {d : List Byte} {s : State} (hlen : d.length ≤ 20)
    (h : d.length < 20 ∨ d[0]? ≠ some 0xAA ∨ d[1]? ≠ some 0x55 ∨ d[19]? ≠ some (checksum (packetBody d))) :
    takeStatus P d s = (s.loadRx d).raise .statusUnavailable := by
  by_cases hshort : d.length < 20
  · exact if_pos hshort
  · have hbuf : (s.loadRx d).rxbuf.toList = d := overlay_toList d s.rxbuf (by omega)
    exact (if_neg hshort).trans (if_pos (validateResponse_ne_ok hbuf (h.resolve_left hshort)))

/-- Settles O51: no failing outcome writes the counters, the flags or the session. -/
theorem pollFailuresKeepTheCounters : Obligations.PollFailuresKeepTheCounters := by
  refine ⟨by decide, refusesOtherFields .pollStatus, fun s => ⟨exec_pollStatus_notReady, fun hready herr => ?_,
    fun hready herr hcount => ?_, fun hready herr hcount hread => ?_, fun d hready herr hcount hread hbad => ?_⟩⟩
  all_goals have hquery : (overlay statusPacket s.txbuf).toList = statusPacket := overlay_toList _ _ statusPacket_length
  · refine ⟨_, exec_pollStatus_writeError hready herr, hquery, ?_⟩
    rw [State.written, State.writeAnswer_of_err herr]
    rfl
  · refine ⟨_, exec_pollStatus_partialWrite hready herr hcount, hquery, ?_⟩
    rw [State.written, State.writeAnswer_of_count herr, statusPacket_length, Nat.min_eq_left hcount.le]
    rfl
  · exact ⟨_, exec_pollStatus_readError hready herr hcount (if_pos hread), hquery, rfl⟩
  · have hlen := readAnswer_length hread
    exact ⟨_, (exec_pollStatus_read hready herr hcount hread).trans (takeStatus_rejected hlen hbad), hquery,
      State.loadRx_rxBytes (s.polled (some d)) d hlen, rfl⟩

/-- Settles O52: the packet fills `RXBUF`, and this hardware's counters saturate. -/
theorem pollTakesAValidResponse : Obligations.PollTakesAValidResponse := by
  intro s d hready herr hcount hread hlen h0 h1 hcs
  refine ⟨_, (exec_pollStatus_read hready herr hcount hread).trans (takeStatus_valid hlen h0 h1 hcs),
    overlay_toList _ _ statusPacket_length, overlay_toList d s.rxbuf hlen, toNat_satAdd8 _ _, toNat_satAdd8 _ _, rfl, ?_⟩
  rw [State.reported, State.loadRx, hlen]
  rfl

/-! ### `CLOSE` (R256) -/

theorem exec_close_open {s : State} (h : s.tportOpen = true) : exec .close s = .next { s with
    sessState := .closed, tportOpen := false, calls := .tClose :: s.calls, responses := ⟨.ok, 0, 0⟩ :: s.responses } := by
  simp only [exec, execClose]
  rw [if_pos h]
  rfl

theorem exec_close_released {s : State} (h : s.tportOpen = false) :
    exec .close s = .next { s with sessState := .closed, responses := ⟨.ok, 0, 0⟩ :: s.responses } := by
  simp only [exec, execClose]
  rw [if_neg (Bool.eq_false_iff.mp h)]
  rfl

/-- Settles O54: either way the transport is released, so a second `CLOSE` finds nothing to do. -/
theorem closeReleasesTheTransport : Obligations.CloseReleasesTheTransport := by
  refine ⟨by decide, refusesOtherFields .close, fun s => ⟨exec_close_open, exec_close_released, ?_⟩⟩
  cases h : s.tportOpen with
  | true => exact ⟨_, exec_close_open h, exec_close_released rfl⟩
  | false => exact ⟨_, exec_close_released h, exec_close_released h⟩

/-! ### `RD_STATE` (R258) -/

/-- The layout of R258, for any bit vectors of its widths. -/
theorem stateView_layout (sess : BitVec 2) (tport : BitVec 1) (rx tx flags : BitVec 8) {v : BitVec 32}
    (hv : v = place 32 0 sess ||| place 32 2 tport ||| place 32 8 rx ||| place 32 16 tx ||| place 32 24 flags) :
    v.extractLsb' 0 2 = sess ∧ v.extractLsb' 2 1 = tport ∧ v.extractLsb' 3 5 = 0 ∧ v.extractLsb' 8 8 = rx ∧
      v.extractLsb' 16 8 = tx ∧ v.extractLsb' 24 8 = flags := by
  subst hv
  simp [BitVec.extractLsb'_or, extractLsb'_place_disjoint]

theorem exec_rdState (s : State) :
    exec .rdState s = .next { s with responses := ⟨.ok, s.stateView, 0⟩ :: s.responses } := rfl

/-- The session is Ready with its counters and flags cleared. -/
structure State.Fresh (s : State) : Prop where
  session : s.sessState = .ready
  tport   : s.tportOpen = true
  rxErr   : s.rxErr = 0
  txErr   : s.txErr = 0
  flags   : s.statusFlags = 0

theorem State.Fresh.stateView {s : State} (h : s.Fresh) : s.stateView = 6 := by
  rw [State.stateView, h.session, h.tport, h.rxErr, h.txErr, h.flags]
  decide

/-- The outcomes of an `OPEN` from `s` that ends in `t`, by the code it answers (R240). -/
inductive OpenOutcome (s t : State) : ResultCode → Prop where
  | illegalCommand (hsess : t.sessState = s.sessState) : OpenOutcome s t .illegalCommand
  | notReady (hs : s.sessState ≠ .closed) (hsess : t.sessState = s.sessState) : OpenOutcome s t .notReady
  | transportUnavailable (hs : s.sessState = .closed) (hsess : t.sessState = .closed) : OpenOutcome s t .transportUnavailable
  | ok (hs : s.sessState = .closed) (hfresh : t.Fresh) : OpenOutcome s t .ok

/-- The command answers `r`, and the outcome is that of its code. -/
def EndsOpen (s : State) (o : Result) : Prop := Ends (fun t => ∃ r, t.lastResponse = some r ∧ OpenOutcome s t r.res) o

theorem configureSession_endsOpen {s : State} (h : s.sessState = .closed) (baud : BitVec 4) (mode : OpMode) (u : State) :
    EndsOpen s (configureSession baud mode u) := by
  rw [configureSession_eq]
  exact ends_ite (fun _ => ⟨_, rfl, _, rfl, .ok h ⟨rfl, rfl, rfl, rfl, rfl⟩⟩) fun _ =>
    ⟨_, rfl, _, rfl, .transportUnavailable h rfl⟩

theorem exec_openSession_endsOpen (baud : BitVec 4) (mode : OpMode) (s : State) :
    EndsOpen s (exec (.openSession baud mode) s) := by
  cases hbaud : baudLegal baud with
  | false => exact ⟨_, exec_openSession_illegalCommand mode s hbaud, _, rfl, .illegalCommand rfl⟩
  | true =>
    by_cases hclosed : s.sessState = .closed
    · cases herr : s.draw.err with
      | true => exact ⟨_, exec_openSession_unavailable mode hbaud hclosed herr, _, rfl, .transportUnavailable hclosed rfl⟩
      | false =>
        rw [exec_openSession_opened mode hbaud hclosed herr]
        exact configureSession_endsOpen hclosed baud mode _
    · exact ⟨_, exec_openSession_notReady mode hbaud hclosed, _, rfl, .notReady hclosed rfl⟩

/-- Settles O55: the fields of the view do not overlap, and an `OPEN` that answers OK leaves a fresh session. -/
theorem rdStateReturnsTheView : Obligations.RdStateReturnsTheView := by
  refine ⟨by decide, refusesOtherFields .rdState, fun s => ⟨s.stateView, exec_rdState s, ?_⟩, rfl,
    fun b m s t v d hopen hlast => ?_⟩
  · exact stateView_layout s.sessState.code (bitOf s.tportOpen) s.rxErr s.txErr s.statusFlags rfl
  · obtain ⟨r, hr, hout⟩ := (exec_openSession_endsOpen b m s).of_next hopen
    obtain rfl : r = ⟨.ok, v, d⟩ := Option.some.inj (hr.symm.trans hlast)
    cases hout with
    | ok _ hfresh => rw [exec_rdState, hfresh.stateView]

/-! ### The state machine (R260) -/

theorem session_mem_writes {i : Instr} : .session ∈ writes i ↔ (∃ b m, i = .openSession b m) ∨ i = .close := by
  cases i <;> simp [writes]

theorem exec_session_kept (i : Instr) (s : State) (hopen : ∀ b m, i ≠ .openSession b m) (hclose : i ≠ .close) :
    Ends (fun t => t.sessState = s.sessState) (exec i s) := by
  obtain ⟨t, ht, hkept, -⟩ := exec_writesOnly i s
  obtain ⟨hsess, -⟩ : t.sessState = s.sessState ∧ _ := hkept .session (by simp [session_mem_writes, hopen, hclose])
  exact ⟨t, ht, hsess⟩

theorem exec_close_closed (s : State) :
    Ends (fun t => t.lastResponse = some ⟨.ok, 0, 0⟩ ∧ t.sessState = .closed) (exec .close s) := ⟨_, rfl, rfl, rfl⟩

/-- The state with other session registers. -/
def State.inSession (x : SessState) (o : Bool) (s : State) : State := { s with sessState := x, tportOpen := o }

/-- The second outcome is the first one with other session registers. -/
def SameInSession (x : SessState) (o : Bool) (o₁ o₂ : Result) : Prop := ∃ t, o₁ = .next t ∧ o₂ = .next (t.inSession x o)

section
variable {x : SessState} {o : Bool} {s : State}

theorem sameInSession_respond (u : State) (r : Response) :
    SameInSession x o (u.respond r) ((u.inSession x o).respond r) := ⟨_, rfl, rfl⟩

theorem sameInSession_ite {c : Prop} [Decidable c] {o₁ o₂ o₁' o₂' : Result} (h₁ : SameInSession x o o₁ o₁')
    (h₂ : SameInSession x o o₂ o₂') : SameInSession x o (if c then o₁ else o₂) (if c then o₁' else o₂') := by
  split <;> assumption

theorem inSession_frame (sel : FrameSel) : (s.inSession x o).frame sel = s.frame sel := by cases sel <;> rfl

theorem inSession_setFrame (sel : FrameSel) (f : FrameReg) :
    (s.inSession x o).setFrame sel f = (s.setFrame sel f).inSession x o := by cases sel <;> rfl

theorem sameInSession_restart (u : State) (b : Byte) (e : ResultCode) :
    SameInSession x o ((u.restart b).raise e) (((u.inSession x o).restart b).raise e) := by
  unfold State.restart
  split <;> exact ⟨_, rfl, rfl⟩

theorem sameInSession_withFrame {sel : FrameSel} {k k' : FrameReg → Result} (hk : ∀ f, SameInSession x o (k f) (k' f)) :
    SameInSession x o (withFrame s sel k) (withFrame (s.inSession x o) sel k') := by
  unfold withFrame
  rw [inSession_frame]
  exact sameInSession_ite (hk _) (sameInSession_respond s _)

theorem pushHunt_inSession (b : Byte) : SameInSession x o (pushHunt b s) (pushHunt b (s.inSession x o)) := by
  unfold pushHunt
  split
  · exact sameInSession_respond (s.startPacket b) _
  · exact sameInSession_respond s _

theorem pushCtrl_inSession (P : Params) (b : Byte) :
    SameInSession x o (pushCtrl P b s) (pushCtrl P b (s.inSession x o)) :=
  sameInSession_ite (sameInSession_restart s b _) ⟨_, rfl, rfl⟩

theorem pushBody_inSession (P : Params) (b : Byte) :
    SameInSession x o (pushBody P b s) (pushBody P b (s.inSession x o)) := by
  refine sameInSession_ite ⟨_, rfl, rfl⟩ (sameInSession_ite (sameInSession_restart (s.collect b) b _) ?_)
  dsimp only [State.inSession]
  split <;> exact ⟨_, rfl, rfl⟩

theorem execRxPush_inSession (b : Byte) : SameInSession x o (execRxPush b s) (execRxPush b (s.inSession x o)) := by
  have hstate : (s.inSession x o).dfState = s.dfState := rfl
  unfold execRxPush pushWith
  rw [hstate]
  cases s.dfState with
  | hunt => exact pushHunt_inSession b
  | ctrl => exact pushCtrl_inSession _ b
  | body => exact pushBody_inSession _ b

end

/-- The commands that are not the session's read no session register. -/
theorem exec_inSession (i : Instr) (s : State) (x : SessState) (o : Bool) (hopen : ∀ b m, i ≠ .openSession b m)
    (hsend : ∀ sel, i ≠ .send sel) (hpoll : i ≠ .pollStatus) (hclose : i ≠ .close) (hrd : i ≠ .rdState) :
    SameInSession x o (exec i s) (exec i (s.inSession x o)) := by
  have hrespond := sameInSession_respond (x := x) (o := o)
  cases i with
  | csumClr | csumAdd | csumRd | rxClr | buildStatus => exact hrespond _ _
  | frameNew => exact sameInSession_ite (hrespond _ _) (sameInSession_ite (hrespond _ _) (hrespond _ _))
  | frameRdId | frameRdMeta | frameRdData | encodeFrame => exact sameInSession_withFrame fun _ => hrespond _ _
  | frameWrByte =>
    refine sameInSession_ite (hrespond _ _) (sameInSession_withFrame fun _ => ?_)
    rw [inSession_setFrame]
    exact hrespond _ _
  | buildConfig | txRd | rxAppend | checkPkt => exact sameInSession_ite (hrespond _ _) (hrespond _ _)
  | decodeFrame =>
    obtain ⟨e, hs, ht⟩ | ⟨f, v, hs, ht⟩ := decodeWith_congr Config.params (s := s) (t := s.inSession x o) rfl
    · exact ⟨_, hs, ht⟩
    · exact ⟨_, hs, ht⟩
  | rxPush b => exact execRxPush_inSession b
  | openSession b m => exact absurd rfl (hopen b m)
  | send sel => exact absurd rfl (hsend sel)
  | pollStatus => exact absurd rfl hpoll
  | close => exact absurd rfl hclose
  | rdState => exact absurd rfl hrd
  | wireConfig | wireStatus | wireStatusResponse | wireDataStdData | wireDataStdRemote | wireDataExtData | wireDataExtRemote =>
    exact ⟨_, rfl, rfl⟩

/-- Settles O56: only `OPEN` and `CLOSE` write the session registers, and the codec commands do not read them. -/
theorem sessionStateMachine : Obligations.SessionStateMachine := by
  refine ⟨fun i s t h => ⟨fun hopen hclose => (exec_session_kept i s hopen hclose).of_next h, ?_, ?_, ?_, ?_⟩, ?_⟩
  · rintro rfl
    exact (exec_close_closed s).of_next h
  · rintro b m rfl hs
    obtain ⟨⟨e, v, d⟩, hlast, hout⟩ := (exec_openSession_endsOpen b m s).of_next h
    refine ⟨_, hlast, ?_⟩
    cases hout with
    | illegalCommand hsess => simp [hsess, hs]
    | notReady hne => exact absurd hs hne
    | transportUnavailable _ hsess => simp [hsess]
    | ok _ hfresh => simp [hfresh.session]
  · rintro b m rfl hs
    obtain ⟨⟨e, v, d⟩, hlast, hout⟩ := (exec_openSession_endsOpen b m s).of_next h
    refine ⟨_, hlast, ?_⟩
    cases hout with
    | illegalCommand hsess => simp [hsess, hs]
    | notReady _ hsess => simp [hsess, hs]
    | transportUnavailable hclosed => simp [hs] at hclosed
    | ok hclosed => simp [hs] at hclosed
  · rintro sel (rfl | rfl) hs
    · cases (exec_send_notReady (by simp [hs])).symm.trans h
      rfl
    · cases (exec_pollStatus_notReady (by simp [hs])).symm.trans h
      rfl
  · intro i s t x o h hopen hsend hpoll hclose hrd
    obtain ⟨_, ht, hx⟩ := exec_inSession i s x o hopen hsend hpoll hclose hrd
    cases ht.symm.trans h
    exact hx

end Sys2Proof.Machine
end

section
/-! Proofs: exceptions (60_exceptions.md): every step goes on (R272, R298), the code each command answers (R270, R274), and the
answers of the transport (R290). -/

namespace Sys2Proof.Machine

/-! ### Every step goes on -/

/-- Settles O11. -/
theorem idleStepHoldsTheState : Obligations.IdleStepHoldsTheState := fun _ => step_idle

theorem exec_next (i : Instr) (s : State) : ∃ t, exec i s = .next t := by
  obtain ⟨t, ht, -⟩ := exec_writesOnly i s
  exact ⟨t, ht⟩

theorem takeUndecodable_next (s : State) (img : Image) : ∃ t, s.takeUndecodable img = .next t := by
  cases img <;> exact ⟨_, rfl⟩

/-- Settles O12: no event stops the block, whether it is a reset, an instruction or neither. -/
theorem everyStepAnswersANextState : Obligations.EveryStepAnswersANextState := by
  intro s
  cases hport : s.port with
  | nil => exact ⟨s, step_idle hport⟩
  | cons e es =>
    cases e with
    | reset => exact ⟨_, step_reset hport⟩
    | present img =>
      cases hdecode : decode img with
      | ok i => rw [step_instr hport hdecode]; exact exec_next i _
      | error e => rw [step_undecodable hport hdecode]; exact takeUndecodable_next _ img

/-! ### The response of a command (R274) -/

/-- From `s` to `t` one response is added, as R274 allows it to the instruction `i`: `InProgress`, which is no failure, carries a
value, an error none (00_scope.md R14). -/
def Answers (i : Instr) (s t : State) : Prop :=
  ∃ r, t.responses = r :: s.responses ∧ r.res ∈ .ok :: .illegalCommand :: allowedCodes i ∧
    (r.res ≠ .ok → r.res ≠ .inProgress → r.rval = 0 ∧ r.rdata = 0)

section
variable {i : Instr} {s u : State}

theorem answers_succeed {v : BitVec 32} {d : BitVec 64} (hu : u.responses = s.responses := by simp) :
    Ends (Answers i s) (u.succeed v d) :=
  ⟨_, rfl, _, congrArg _ hu, by simp, fun hok => absurd rfl hok⟩

theorem answers_raise {e : ResultCode} (he : e ∈ .illegalCommand :: allowedCodes i := by simp [allowedCodes])
    (hu : u.responses = s.responses := by simp) : Ends (Answers i s) (u.raise e) :=
  ⟨_, rfl, _, congrArg _ hu, List.mem_cons_of_mem _ he, fun _ _ => ⟨rfl, rfl⟩⟩

theorem answers_withFrame {sel : FrameSel} {k : FrameReg → Result} (hnone : .noFrame ∈ allowedCodes i)
    (hk : ∀ f, Ends (Answers i s) (k f)) : Ends (Answers i s) (withFrame s sel k) :=
  ends_withFrame (answers_raise (List.mem_cons_of_mem _ hnone)) fun f _ _ => hk f

/-- The codes of 42_command_packets.md R186. -/
theorem validateResponse_mem (buf : Vector Byte 20) (n : Nat) :
    validateResponse buf n ∈ [.ok, .packetMalformed, .checksumMismatch] := by
  unfold validateResponse
  split_ifs <;> simp

theorem execCheckPkt_answers (s : State) : Ends (Answers .checkPkt s) (execCheckPkt s) := by
  have hmem := validateResponse_mem s.rxbuf s.rxlen.toNat
  exact ends_ite (fun _ => answers_succeed) fun hbad => answers_raise (List.mem_cons_of_mem _ (List.mem_of_ne_of_mem hbad hmem))

theorem decodePacketFrame_error_mem {P : Params} {bs : List Byte} {e : ResultCode} (h : decodePacketFrame P bs = .error e) :
    e ∈ [.malformedFrame, .identifierOutOfRange] := by
  simpa using decodePacketFrame_error h

theorem decodeWith_answers (P : Params) (s : State) : Ends (Answers .decodeFrame s) (decodeWith P s) := by
  unfold decodeWith
  split
  next he => exact answers_raise (List.mem_cons_of_mem _ (decodePacketFrame_error_mem he))
  next => exact answers_succeed

theorem restart_responses (s : State) (b : Byte) : (s.restart b).responses = s.responses := by
  unfold State.restart
  split <;> rfl

theorem answers_inProgress {b : Byte} {v : BitVec 32} (hu : u.responses = s.responses := by simp) :
    Ends (Answers (.rxPush b) s) (u.respond ⟨.inProgress, v, 0⟩) :=
  ⟨_, rfl, _, congrArg _ hu, by simp [allowedCodes], fun _ hprog => absurd rfl hprog⟩

theorem pushHunt_answers (b : Byte) (s : State) : Ends (Answers (.rxPush b) s) (pushHunt b s) := by
  refine answers_inProgress ?_
  split <;> rfl

theorem pushCtrl_answers (P : Params) (b : Byte) (s : State) : Ends (Answers (.rxPush b) s) (pushCtrl P b s) :=
  ends_ite (fun _ => answers_raise (hu := restart_responses s b)) fun _ => answers_inProgress

theorem pushBody_answers (P : Params) (b : Byte) (s : State) : Ends (Answers (.rxPush b) s) (pushBody P b s) := by
  refine ends_ite (fun _ => answers_inProgress) fun _ =>
    ends_ite (fun _ => answers_raise (hu := restart_responses (s.collect b) b)) fun _ => ?_
  split
  next he => exact answers_raise (List.mem_cons_of_mem _ (List.mem_cons_of_mem _ (decodePacketFrame_error_mem he)))
  next => exact answers_succeed

theorem pushWith_answers (P : Params) (b : Byte) (s : State) : Ends (Answers (.rxPush b) s) (pushWith P b s) := by
  unfold pushWith
  split
  · exact pushHunt_answers b s
  · exact pushCtrl_answers P b s
  · exact pushBody_answers P b s

theorem configureSession_answers {baud : BitVec 4} {mode : OpMode} (hu : u.responses = s.responses) :
    Ends (Answers (.openSession baud mode) s) (configureSession baud mode u) := by
  rw [configureSession_eq]
  exact ends_ite (fun _ => answers_succeed hu) fun _ => answers_raise (hu := hu)

theorem execOpen_answers (baud : BitVec 4) (mode : OpMode) (s : State) :
    Ends (Answers (.openSession baud mode) s) (execOpen baud mode s) :=
  ends_ite (fun _ => answers_raise) fun _ => ends_ite (fun _ => answers_raise) fun _ =>
    ends_ite (fun _ => configureSession_answers (by simp)) fun _ => answers_raise

theorem sendWith_answers (P : Params) (sel : FrameSel) (s : State) : Ends (Answers (.send sel) s) (sendWith P sel s) := by
  refine ends_ite (fun _ => answers_raise) fun _ => answers_withFrame (by simp [allowedCodes]) fun f => ?_
  dsimp only
  split
  · exact answers_raise
  · exact answers_succeed

theorem takeStatus_answers (P : Params) (d : List Byte) (hu : u.responses = s.responses) :
    Ends (Answers .pollStatus s) (takeStatus P d u) :=
  have hunavailable := answers_raise (i := .pollStatus) (u := u.loadRx d) (e := .statusUnavailable) (hu := hu)
  ends_ite (fun _ => hunavailable) fun _ => ends_ite (fun _ => hunavailable) fun _ => answers_succeed hu

theorem pollWith_answers (P : Params) (s : State) : Ends (Answers .pollStatus s) (pollWith P s) := by
  refine ends_ite (fun _ => answers_raise) fun _ => ?_
  dsimp only
  split
  next => exact answers_raise
  next =>
    refine ends_ite (fun _ => answers_raise) fun _ => ?_
    split
    next => exact answers_raise
    next => exact takeStatus_answers P _ (by simp)

theorem execClose_answers (s : State) : Ends (Answers .close s) (execClose s) := by
  refine answers_succeed ?_
  dsimp only
  split <;> rfl

end

/-- Every command gives one response, with a code R274 allows it. -/
theorem exec_answers (i : Instr) (s : State) (hi : i.isCommand = true) : Ends (Answers i s) (exec i s) := by
  cases i with
  | csumClr | csumAdd | csumRd | buildStatus | rxClr | rdState => exact answers_succeed
  | frameNew => exact ends_ite (fun _ => answers_raise) fun _ => ends_ite (fun _ => answers_raise) fun _ => answers_succeed
  | frameRdId | frameRdMeta | frameRdData | encodeFrame =>
    exact answers_withFrame (by simp [allowedCodes]) fun _ => answers_succeed
  | frameWrByte =>
    exact ends_ite (fun _ => answers_raise) fun _ => answers_withFrame (by simp [allowedCodes]) fun _ => answers_succeed
  | buildConfig => exact ends_ite (fun _ => answers_succeed) fun _ => answers_raise
  | txRd | rxAppend => exact ends_ite (fun _ => answers_raise) fun _ => answers_succeed
  | decodeFrame => exact decodeWith_answers Config.params s
  | checkPkt => exact execCheckPkt_answers s
  | rxPush b => exact pushWith_answers Config.params b s
  | openSession baud mode => exact execOpen_answers baud mode s
  | send sel => exact sendWith_answers Config.params sel s
  | pollStatus => exact pollWith_answers Config.params s
  | close => exact execClose_answers s
  | wireConfig | wireStatus | wireStatusResponse | wireDataStdData | wireDataStdRemote | wireDataExtData | wireDataExtRemote =>
    cases hi

/-- A wire packet is no command and gets no response (log entry 5). -/
theorem exec_wire_responses (i : Instr) (s : State) (hi : i.isCommand = false) :
    Ends (fun t => t.responses = s.responses) (exec i s) := by
  cases i with
  | wireConfig | wireStatus | wireStatusResponse | wireDataStdData | wireDataStdRemote | wireDataExtData | wireDataExtRemote =>
    exact ⟨_, rfl, rfl⟩
  | _ => cases hi

theorem ResultCode.code_lt (e : ResultCode) : e.code < 14 := by
  cases e <;> decide

/-- Settles O13, command by command; the numbers 14 and 15 are no result's. -/
theorem everyCommandReturnsAnAllowedCode : Obligations.EveryCommandReturnsAnAllowedCode := by
  refine ⟨fun i s t h => ⟨fun hi => ?_, fun hi => (exec_wire_responses i s hi).of_next h⟩,
    rfl, rfl, rfl, rfl, rfl, rfl, rfl, rfl, rfl, rfl, rfl, rfl, rfl, rfl⟩
  obtain ⟨r, hresp, hmem, hzero⟩ := (exec_answers i s hi).of_next h
  have hlt := r.res.code_lt
  exact ⟨r, hresp, hmem, by bv_omega, by bv_omega, hzero⟩

/-! ### The answers of the transport (R290) -/

/-- An answer to `T_write` within its range is given where it is the next one fixed. -/
theorem exists_writeAnswer (s : State) (p : List Byte) {a : Option Nat} (ha : ∀ n, a = some n → n ≤ p.length) :
    ∃ d, ({ s with answers := d :: s.answers } : State).writeAnswer p = a := by
  cases a with
  | none => exact ⟨⟨true, 0, 0, []⟩, rfl⟩
  | some n => exact ⟨⟨false, n, 0, []⟩, congrArg some (Nat.min_eq_left (ha n rfl))⟩

/-- Any bytes within the range of a `T_read` are read where the unread ones are lost and those arrive instead. -/
theorem exists_readAnswer (s : State) (n : Nat) {a : Option (List Byte)} (ha : ∀ d, a = some d → d.length ≤ n) :
    ∃ d, ({ s with answers := d :: s.answers } : State).readAnswer n = a := by
  cases a with
  | none => exact ⟨⟨true, 0, 0, []⟩, rfl⟩
  | some bs =>
    refine ⟨⟨false, bs.length, s.unread.length, bs⟩, ?_⟩
    simp [State.readAnswer, State.available, State.draw, ha bs rfl]

/-- The bytes read are the first of those available, and the others stay unread (20_memory.md R88, R92). -/
theorem readAnswer_eq_some {s : State} {n : Nat} {d : List Byte} (h : s.readAnswer n = some d) :
    d = s.available.take d.length ∧ (s.afterRead n).unread = s.available.drop d.length := by
  obtain ⟨-, hread⟩ | ⟨herr, hread⟩ := s.readAnswer_cases n
  · simp [hread] at h
  · obtain rfl : s.available.take (min s.draw.count n) = d := by simpa [hread] using h
    simp [State.afterRead_eq, herr]

/-- Settles O60: what is given stays in range, and each answer in range is given where it is the next one fixed. -/
theorem transportAnswersAreAllAndOnlyTheLegalOnes : Obligations.TransportAnswersAreAllAndOnlyTheLegalOnes := by
  refine ⟨fun s ok => ⟨⟨!ok, 0, 0, []⟩, Bool.not_not ok⟩, fun _ _ _ => writeAnswer_le, fun _ _ _ => readAnswer_length,
    fun s p _ => exists_writeAnswer s p, fun s n _ => exists_readAnswer s n, fun s n d hlost hread => ?_⟩
  have havailable : s.available = s.unread ++ s.draw.arrived := by rw [State.available, hlost, List.drop_zero]
  exact havailable ▸ readAnswer_eq_some hread

end Sys2Proof.Machine
end

section
/-! Proofs: reset and hazards (70_reset_and_hazards.md): a reset between commands (R300). -/

namespace Sys2Proof.Machine

@[simp] theorem State.resetBlock_txf_valid (s : State) : s.resetBlock.txf.valid = false := rfl
@[simp] theorem State.resetBlock_rxf_valid (s : State) : s.resetBlock.rxf.valid = false := rfl

/-- Settles O16: the step resets the block once the event is taken, and the inputs then hold the later events. -/
theorem resetEventResetsTheBlock : Obligations.ResetEventResetsTheBlock := by
  intro s es hport
  exact ⟨({ s with port := es } : State).resetBlock, step_reset hport, by simp⟩

end Sys2Proof.Machine
end
